-- ==== Sys2Proof/Word.lean ====
section
/-! DEFINITION. The widths of the machine: bytes, words and 20-bit physical addresses (`00_scope.md` R2, R9, R11). -/

namespace Sys2Proof

/-- A byte: 8 bits (R11, "dato tipo byte"). -/
abbrev Byte := BitVec 8

/-- A word: 16 bits, the width of every register (R3, R20) and of the data bus (R2). -/
abbrev Word := BitVec 16

/-- A physical address: the 20 lines A19 to A0 (R2, R120). -/
abbrev Addr := BitVec 20

end Sys2Proof
end

