-- ==== Sys2Proof/Config.lean ====
section
/-! DEFINITION. The free values: constants without a body, applied to the counters `State.draws` and `State.floats`, so
that nothing can be proved of the value an instruction leaves undefined, or a read takes where nothing answers (`draw` of
`00_scope.md` R15; `93_implementation_defined.md` U2, U3, U6, U7, U12, U14, U17). Log entries 2, 5, 6, 7, 16, 17, 22,
26. -/

namespace Sys2Proof

/-- The `n`-th free bit, `draw(1)` (R15). -/
opaque Config.freeBit : Nat → Bool

/-- The `n`-th free byte, `draw(8)` (R15). -/
opaque Config.freeByte : Nat → Byte

/-- The byte of the `n`-th read where nothing answers (R145, R322, U3). -/
opaque Config.openByte : Nat → Byte

/-- The `n`-th free word, `draw(16)` (R15). -/
opaque Config.freeWord : Nat → Word

end Sys2Proof
end

