-- ==== Sys2Proof/Syntax.lean ====
section
/-! DEFINITION. The instructions of the 8086 as data: register names, memory operands, and one constructor of
`Instr` for each mnemonic of `spec/opcode_table.json` (rules R24, R30, R31, R263, R264, R273, R274). -/

namespace Sys2Proof

/-- The eight 16-bit general registers, in the order of their encoding numbers (R30). -/
inductive Reg16 where
  | ax | cx | dx | bx | sp | bp | si | di
  deriving DecidableEq, Repr

/-- The eight 8-bit register names, in the order of their encoding numbers (R31). -/
inductive Reg8 where
  | al | cl | dl | bl | ah | ch | dh | bh
  deriving DecidableEq, Repr

/-- The four segment registers, in the order of their encoding numbers (R24). -/
inductive SegReg where
  | es | cs | ss | ds
  deriving DecidableEq, Repr

/-- The eight register sums a memory operand can be based on, in the order of `rm` (R264). -/
inductive Base where
  | bxsi | bxdi | bpsi | bpdi | si | di | bp | bx
  deriving DecidableEq, Repr

/-- The displacement of a based memory operand: the three values `mod` = 00, 01, 10 (R264). -/
inductive Disp where
  | none
  | d8 (d : Byte)
  | d16 (d : Word)
  deriving DecidableEq, Repr

/-- A memory operand: a direct 16-bit offset (`mod` = 00, `rm` = 110), or a base with a displacement (R264). -/
inductive MemOp where
  | direct (off : Word)
  | based (b : Base) (d : Disp)
  deriving DecidableEq, Repr

/-- The `r/m` operand: a register when `mod` = 11, otherwise a memory operand (R263). -/
inductive RM (ρ : Type) where
  | reg (r : ρ)
  | mem (m : MemOp)
  deriving DecidableEq, Repr

/-- The repeat prefixes: `F2` has `z` = 0, `F3` has `z` = 1 (R271, R430). -/
inductive Rep where
  | repne
  | rep
  deriving DecidableEq, Repr

/-- The instructions. Each prefix byte is an instruction of its own that arms what follows (R271, R300, R430, R508).
The two encodings of one operation are two constructors, so that a constructor fixes the bytes (R265, R279). -/
inductive Instr where
  -- Data transfer (41_data_transfer.md)
  /-- `PUSH ES`, `06` (R312). -/
  | pushEs
  /-- `PUSH CS`, `0E` (R312). -/
  | pushCs
  /-- `PUSH SS`, `16` (R312). -/
  | pushSs
  /-- `PUSH DS`, `1E` (R312). -/
  | pushDs
  /-- `POP ES`, `07` (R313). -/
  | popEs
  /-- `POP SS`, `17` (R313). -/
  | popSs
  /-- `POP DS`, `1F` (R313). -/
  | popDs
  /-- `PUSH r16`, `50` (R312). -/
  | pushR16 (r : Reg16)
  /-- `PUSH r/m16`, `FF /6` (R312). -/
  | pushRm16 (e : RM Reg16)
  /-- `POP r16`, `58` (R313). -/
  | popR16 (r : Reg16)
  /-- `POP r/m16`, `8F /0` (R313). -/
  | popRm16 (e : RM Reg16)
  /-- `MOV r/m8, r8`, `88` (R311). -/
  | movRm8R8 (e : RM Reg8) (r : Reg8)
  /-- `MOV r/m16, r16`, `89` (R311). -/
  | movRm16R16 (e : RM Reg16) (r : Reg16)
  /-- `MOV r8, r/m8`, `8A` (R311). -/
  | movR8Rm8 (r : Reg8) (e : RM Reg8)
  /-- `MOV r16, r/m16`, `8B` (R311). -/
  | movR16Rm16 (r : Reg16) (e : RM Reg16)
  /-- `MOV r/m16, sreg`, `8C` (R311). -/
  | movRm16Sreg (e : RM Reg16) (g : SegReg)
  /-- `MOV ES, r/m16`, `8E /0` (R311). -/
  | movEsRm16 (e : RM Reg16)
  /-- `MOV SS, r/m16`, `8E /2` (R311). -/
  | movSsRm16 (e : RM Reg16)
  /-- `MOV DS, r/m16`, `8E /3` (R311). -/
  | movDsRm16 (e : RM Reg16)
  /-- `MOV AL, moffs16`, `A0` (R311). -/
  | movAlMoffs (a : Word)
  /-- `MOV AX, moffs16`, `A1` (R311). -/
  | movAxMoffs (a : Word)
  /-- `MOV moffs16, AL`, `A2` (R311). -/
  | movMoffsAl (a : Word)
  /-- `MOV moffs16, AX`, `A3` (R311). -/
  | movMoffsAx (a : Word)
  /-- `MOV r8, imm8`, `B0` (R311). -/
  | movR8Imm8 (r : Reg8) (v : Byte)
  /-- `MOV r16, imm16`, `B8` (R311). -/
  | movR16Imm16 (r : Reg16) (v : Word)
  /-- `MOV r/m8, imm8`, `C6 /0` (R311). -/
  | movRm8Imm8 (e : RM Reg8) (v : Byte)
  /-- `MOV r/m16, imm16`, `C7 /0` (R311). -/
  | movRm16Imm16 (e : RM Reg16) (v : Word)
  /-- `XCHG r8, r/m8`, `86` (R314). -/
  | xchgR8Rm8 (r : Reg8) (e : RM Reg8)
  /-- `XCHG r16, r/m16`, `87` (R314). -/
  | xchgR16Rm16 (r : Reg16) (e : RM Reg16)
  /-- `XCHG AX, r16`, `90` (R314). -/
  | xchgAxR16 (r : Reg16)
  /-- `XLAT`, `D7` (R315). -/
  | xlat
  /-- `LEA r16, m`, `8D` (R316). -/
  | lea (r : Reg16) (m : MemOp)
  /-- `LDS r16, m16:16`, `C5` (R317). -/
  | lds (r : Reg16) (m : MemOp)
  /-- `LES r16, m16:16`, `C4` (R318). -/
  | les (r : Reg16) (m : MemOp)
  /-- `LAHF`, `9F` (R319). -/
  | lahf
  /-- `SAHF`, `9E` (R320). -/
  | sahf
  /-- `PUSHF`, `9C` (R321). -/
  | pushf
  /-- `POPF`, `9D` (R324). -/
  | popf
  /-- `IN AL, imm8`, `E4` (R322). -/
  | inAlImm8 (p : Byte)
  /-- `IN AX, imm8`, `E5` (R322). -/
  | inAxImm8 (p : Byte)
  /-- `IN AL, DX`, `EC` (R322). -/
  | inAlDx
  /-- `IN AX, DX`, `ED` (R322). -/
  | inAxDx
  /-- `OUT imm8, AL`, `E6` (R323). -/
  | outImm8Al (p : Byte)
  /-- `OUT imm8, AX`, `E7` (R323). -/
  | outImm8Ax (p : Byte)
  /-- `OUT DX, AL`, `EE` (R323). -/
  | outDxAl
  /-- `OUT DX, AX`, `EF` (R323). -/
  | outDxAx
  -- Arithmetic (42_arithmetic.md)
  /-- `ADD r/m8, r8`, `00` (R351). -/
  | addRm8R8 (e : RM Reg8) (r : Reg8)
  /-- `ADD r/m16, r16`, `01` (R351). -/
  | addRm16R16 (e : RM Reg16) (r : Reg16)
  /-- `ADD r8, r/m8`, `02` (R351). -/
  | addR8Rm8 (r : Reg8) (e : RM Reg8)
  /-- `ADD r16, r/m16`, `03` (R351). -/
  | addR16Rm16 (r : Reg16) (e : RM Reg16)
  /-- `ADD AL, imm8`, `04` (R351). -/
  | addAlImm8 (v : Byte)
  /-- `ADD AX, imm16`, `05` (R351). -/
  | addAxImm16 (v : Word)
  /-- `ADC r/m8, r8`, `10` (R352). -/
  | adcRm8R8 (e : RM Reg8) (r : Reg8)
  /-- `ADC r/m16, r16`, `11` (R352). -/
  | adcRm16R16 (e : RM Reg16) (r : Reg16)
  /-- `ADC r8, r/m8`, `12` (R352). -/
  | adcR8Rm8 (r : Reg8) (e : RM Reg8)
  /-- `ADC r16, r/m16`, `13` (R352). -/
  | adcR16Rm16 (r : Reg16) (e : RM Reg16)
  /-- `ADC AL, imm8`, `14` (R352). -/
  | adcAlImm8 (v : Byte)
  /-- `ADC AX, imm16`, `15` (R352). -/
  | adcAxImm16 (v : Word)
  /-- `SBB r/m8, r8`, `18` (R357). -/
  | sbbRm8R8 (e : RM Reg8) (r : Reg8)
  /-- `SBB r/m16, r16`, `19` (R357). -/
  | sbbRm16R16 (e : RM Reg16) (r : Reg16)
  /-- `SBB r8, r/m8`, `1A` (R357). -/
  | sbbR8Rm8 (r : Reg8) (e : RM Reg8)
  /-- `SBB r16, r/m16`, `1B` (R357). -/
  | sbbR16Rm16 (r : Reg16) (e : RM Reg16)
  /-- `SBB AL, imm8`, `1C` (R357). -/
  | sbbAlImm8 (v : Byte)
  /-- `SBB AX, imm16`, `1D` (R357). -/
  | sbbAxImm16 (v : Word)
  /-- `SUB r/m8, r8`, `28` (R356). -/
  | subRm8R8 (e : RM Reg8) (r : Reg8)
  /-- `SUB r/m16, r16`, `29` (R356). -/
  | subRm16R16 (e : RM Reg16) (r : Reg16)
  /-- `SUB r8, r/m8`, `2A` (R356). -/
  | subR8Rm8 (r : Reg8) (e : RM Reg8)
  /-- `SUB r16, r/m16`, `2B` (R356). -/
  | subR16Rm16 (r : Reg16) (e : RM Reg16)
  /-- `SUB AL, imm8`, `2C` (R356). -/
  | subAlImm8 (v : Byte)
  /-- `SUB AX, imm16`, `2D` (R356). -/
  | subAxImm16 (v : Word)
  /-- `CMP r/m8, r8`, `38` (R360). -/
  | cmpRm8R8 (e : RM Reg8) (r : Reg8)
  /-- `CMP r/m16, r16`, `39` (R360). -/
  | cmpRm16R16 (e : RM Reg16) (r : Reg16)
  /-- `CMP r8, r/m8`, `3A` (R360). -/
  | cmpR8Rm8 (r : Reg8) (e : RM Reg8)
  /-- `CMP r16, r/m16`, `3B` (R360). -/
  | cmpR16Rm16 (r : Reg16) (e : RM Reg16)
  /-- `CMP AL, imm8`, `3C` (R360). -/
  | cmpAlImm8 (v : Byte)
  /-- `CMP AX, imm16`, `3D` (R360). -/
  | cmpAxImm16 (v : Word)
  /-- `ADD r/m8, imm8`, `80 /0` (R351). -/
  | addRm8Imm8 (e : RM Reg8) (v : Byte)
  /-- `ADC r/m8, imm8`, `80 /2` (R352). -/
  | adcRm8Imm8 (e : RM Reg8) (v : Byte)
  /-- `SBB r/m8, imm8`, `80 /3` (R357). -/
  | sbbRm8Imm8 (e : RM Reg8) (v : Byte)
  /-- `SUB r/m8, imm8`, `80 /5` (R356). -/
  | subRm8Imm8 (e : RM Reg8) (v : Byte)
  /-- `CMP r/m8, imm8`, `80 /7` (R360). -/
  | cmpRm8Imm8 (e : RM Reg8) (v : Byte)
  /-- `ADD r/m16, imm16`, `81 /0` (R351). -/
  | addRm16Imm16 (e : RM Reg16) (v : Word)
  /-- `ADC r/m16, imm16`, `81 /2` (R352). -/
  | adcRm16Imm16 (e : RM Reg16) (v : Word)
  /-- `SBB r/m16, imm16`, `81 /3` (R357). -/
  | sbbRm16Imm16 (e : RM Reg16) (v : Word)
  /-- `SUB r/m16, imm16`, `81 /5` (R356). -/
  | subRm16Imm16 (e : RM Reg16) (v : Word)
  /-- `CMP r/m16, imm16`, `81 /7` (R360). -/
  | cmpRm16Imm16 (e : RM Reg16) (v : Word)
  /-- `ADD r/m8, imm8`, `82 /0` (R351). -/
  | addRm8Imm8Alt (e : RM Reg8) (v : Byte)
  /-- `ADC r/m8, imm8`, `82 /2` (R352). -/
  | adcRm8Imm8Alt (e : RM Reg8) (v : Byte)
  /-- `SBB r/m8, imm8`, `82 /3` (R357). -/
  | sbbRm8Imm8Alt (e : RM Reg8) (v : Byte)
  /-- `SUB r/m8, imm8`, `82 /5` (R356). -/
  | subRm8Imm8Alt (e : RM Reg8) (v : Byte)
  /-- `CMP r/m8, imm8`, `82 /7` (R360). -/
  | cmpRm8Imm8Alt (e : RM Reg8) (v : Byte)
  /-- `ADD r/m16, simm8`, `83 /0` (R351). -/
  | addRm16Simm8 (e : RM Reg16) (v : Byte)
  /-- `ADC r/m16, simm8`, `83 /2` (R352). -/
  | adcRm16Simm8 (e : RM Reg16) (v : Byte)
  /-- `SBB r/m16, simm8`, `83 /3` (R357). -/
  | sbbRm16Simm8 (e : RM Reg16) (v : Byte)
  /-- `SUB r/m16, simm8`, `83 /5` (R356). -/
  | subRm16Simm8 (e : RM Reg16) (v : Byte)
  /-- `CMP r/m16, simm8`, `83 /7` (R360). -/
  | cmpRm16Simm8 (e : RM Reg16) (v : Byte)
  /-- `INC r16`, `40` (R353). -/
  | incR16 (r : Reg16)
  /-- `INC r/m8`, `FE /0` (R353). -/
  | incRm8 (e : RM Reg8)
  /-- `INC r/m16`, `FF /0` (R353). -/
  | incRm16 (e : RM Reg16)
  /-- `DEC r16`, `48` (R358). -/
  | decR16 (r : Reg16)
  /-- `DEC r/m8`, `FE /1` (R358). -/
  | decRm8 (e : RM Reg8)
  /-- `DEC r/m16`, `FF /1` (R358). -/
  | decRm16 (e : RM Reg16)
  /-- `AAA`, `37` (R354). -/
  | aaa
  /-- `DAA`, `27` (R355). -/
  | daa
  /-- `AAS`, `3F` (R361). -/
  | aas
  /-- `DAS`, `2F` (R362). -/
  | das
  /-- `AAM`, `D4` (R365). -/
  | aam
  /-- `AAD`, `D5` (R368). -/
  | aad
  /-- `CBW`, `98` (R369). -/
  | cbw
  /-- `CWD`, `99` (R370). -/
  | cwd
  /-- `NEG r/m8`, `F6 /3` (R359). -/
  | negRm8 (e : RM Reg8)
  /-- `NEG r/m16`, `F7 /3` (R359). -/
  | negRm16 (e : RM Reg16)
  /-- `MUL r/m8`, `F6 /4` (R363). -/
  | mulRm8 (e : RM Reg8)
  /-- `MUL r/m16`, `F7 /4` (R363). -/
  | mulRm16 (e : RM Reg16)
  /-- `IMUL r/m8`, `F6 /5` (R364). -/
  | imulRm8 (e : RM Reg8)
  /-- `IMUL r/m16`, `F7 /5` (R364). -/
  | imulRm16 (e : RM Reg16)
  /-- `DIV r/m8`, `F6 /6` (R366). -/
  | divRm8 (e : RM Reg8)
  /-- `DIV r/m16`, `F7 /6` (R366). -/
  | divRm16 (e : RM Reg16)
  /-- `IDIV r/m8`, `F6 /7` (R367). -/
  | idivRm8 (e : RM Reg8)
  /-- `IDIV r/m16`, `F7 /7` (R367). -/
  | idivRm16 (e : RM Reg16)
  -- Logic, shifts and rotates (43_logic_shift.md)
  /-- `OR r/m8, r8`, `08` (R411). -/
  | orRm8R8 (e : RM Reg8) (r : Reg8)
  /-- `OR r/m16, r16`, `09` (R411). -/
  | orRm16R16 (e : RM Reg16) (r : Reg16)
  /-- `OR r8, r/m8`, `0A` (R411). -/
  | orR8Rm8 (r : Reg8) (e : RM Reg8)
  /-- `OR r16, r/m16`, `0B` (R411). -/
  | orR16Rm16 (r : Reg16) (e : RM Reg16)
  /-- `OR AL, imm8`, `0C` (R411). -/
  | orAlImm8 (v : Byte)
  /-- `OR AX, imm16`, `0D` (R411). -/
  | orAxImm16 (v : Word)
  /-- `AND r/m8, r8`, `20` (R409). -/
  | andRm8R8 (e : RM Reg8) (r : Reg8)
  /-- `AND r/m16, r16`, `21` (R409). -/
  | andRm16R16 (e : RM Reg16) (r : Reg16)
  /-- `AND r8, r/m8`, `22` (R409). -/
  | andR8Rm8 (r : Reg8) (e : RM Reg8)
  /-- `AND r16, r/m16`, `23` (R409). -/
  | andR16Rm16 (r : Reg16) (e : RM Reg16)
  /-- `AND AL, imm8`, `24` (R409). -/
  | andAlImm8 (v : Byte)
  /-- `AND AX, imm16`, `25` (R409). -/
  | andAxImm16 (v : Word)
  /-- `XOR r/m8, r8`, `30` (R412). -/
  | xorRm8R8 (e : RM Reg8) (r : Reg8)
  /-- `XOR r/m16, r16`, `31` (R412). -/
  | xorRm16R16 (e : RM Reg16) (r : Reg16)
  /-- `XOR r8, r/m8`, `32` (R412). -/
  | xorR8Rm8 (r : Reg8) (e : RM Reg8)
  /-- `XOR r16, r/m16`, `33` (R412). -/
  | xorR16Rm16 (r : Reg16) (e : RM Reg16)
  /-- `XOR AL, imm8`, `34` (R412). -/
  | xorAlImm8 (v : Byte)
  /-- `XOR AX, imm16`, `35` (R412). -/
  | xorAxImm16 (v : Word)
  /-- `OR r/m8, imm8`, `80 /1` (R411). -/
  | orRm8Imm8 (e : RM Reg8) (v : Byte)
  /-- `AND r/m8, imm8`, `80 /4` (R409). -/
  | andRm8Imm8 (e : RM Reg8) (v : Byte)
  /-- `XOR r/m8, imm8`, `80 /6` (R412). -/
  | xorRm8Imm8 (e : RM Reg8) (v : Byte)
  /-- `OR r/m16, imm16`, `81 /1` (R411). -/
  | orRm16Imm16 (e : RM Reg16) (v : Word)
  /-- `AND r/m16, imm16`, `81 /4` (R409). -/
  | andRm16Imm16 (e : RM Reg16) (v : Word)
  /-- `XOR r/m16, imm16`, `81 /6` (R412). -/
  | xorRm16Imm16 (e : RM Reg16) (v : Word)
  /-- `NOT r/m8`, `F6 /2` (R401). -/
  | notRm8 (e : RM Reg8)
  /-- `NOT r/m16`, `F7 /2` (R401). -/
  | notRm16 (e : RM Reg16)
  /-- `TEST r/m8, r8`, `84` (R410). -/
  | testRm8R8 (e : RM Reg8) (r : Reg8)
  /-- `TEST r/m16, r16`, `85` (R410). -/
  | testRm16R16 (e : RM Reg16) (r : Reg16)
  /-- `TEST AL, imm8`, `A8` (R410). -/
  | testAlImm8 (v : Byte)
  /-- `TEST AX, imm16`, `A9` (R410). -/
  | testAxImm16 (v : Word)
  /-- `TEST r/m8, imm8`, `F6 /0` (R410). -/
  | testRm8Imm8 (e : RM Reg8) (v : Byte)
  /-- `TEST r/m16, imm16`, `F7 /0` (R410). -/
  | testRm16Imm16 (e : RM Reg16) (v : Word)
  /-- `ROL r/m8, 1`, `D0 /0` (R405). -/
  | rolRm8One (e : RM Reg8)
  /-- `ROL r/m16, 1`, `D1 /0` (R405). -/
  | rolRm16One (e : RM Reg16)
  /-- `ROL r/m8, CL`, `D2 /0` (R405). -/
  | rolRm8Cl (e : RM Reg8)
  /-- `ROL r/m16, CL`, `D3 /0` (R405). -/
  | rolRm16Cl (e : RM Reg16)
  /-- `ROR r/m8, 1`, `D0 /1` (R406). -/
  | rorRm8One (e : RM Reg8)
  /-- `ROR r/m16, 1`, `D1 /1` (R406). -/
  | rorRm16One (e : RM Reg16)
  /-- `ROR r/m8, CL`, `D2 /1` (R406). -/
  | rorRm8Cl (e : RM Reg8)
  /-- `ROR r/m16, CL`, `D3 /1` (R406). -/
  | rorRm16Cl (e : RM Reg16)
  /-- `RCL r/m8, 1`, `D0 /2` (R407). -/
  | rclRm8One (e : RM Reg8)
  /-- `RCL r/m16, 1`, `D1 /2` (R407). -/
  | rclRm16One (e : RM Reg16)
  /-- `RCL r/m8, CL`, `D2 /2` (R407). -/
  | rclRm8Cl (e : RM Reg8)
  /-- `RCL r/m16, CL`, `D3 /2` (R407). -/
  | rclRm16Cl (e : RM Reg16)
  /-- `RCR r/m8, 1`, `D0 /3` (R408). -/
  | rcrRm8One (e : RM Reg8)
  /-- `RCR r/m16, 1`, `D1 /3` (R408). -/
  | rcrRm16One (e : RM Reg16)
  /-- `RCR r/m8, CL`, `D2 /3` (R408). -/
  | rcrRm8Cl (e : RM Reg8)
  /-- `RCR r/m16, CL`, `D3 /3` (R408). -/
  | rcrRm16Cl (e : RM Reg16)
  /-- `SHL/SAL r/m8, 1`, `D0 /4` (R402). -/
  | shlRm8One (e : RM Reg8)
  /-- `SHL/SAL r/m16, 1`, `D1 /4` (R402). -/
  | shlRm16One (e : RM Reg16)
  /-- `SHL/SAL r/m8, CL`, `D2 /4` (R402). -/
  | shlRm8Cl (e : RM Reg8)
  /-- `SHL/SAL r/m16, CL`, `D3 /4` (R402). -/
  | shlRm16Cl (e : RM Reg16)
  /-- `SHR r/m8, 1`, `D0 /5` (R403). -/
  | shrRm8One (e : RM Reg8)
  /-- `SHR r/m16, 1`, `D1 /5` (R403). -/
  | shrRm16One (e : RM Reg16)
  /-- `SHR r/m8, CL`, `D2 /5` (R403). -/
  | shrRm8Cl (e : RM Reg8)
  /-- `SHR r/m16, CL`, `D3 /5` (R403). -/
  | shrRm16Cl (e : RM Reg16)
  /-- `SAR r/m8, 1`, `D0 /7` (R404). -/
  | sarRm8One (e : RM Reg8)
  /-- `SAR r/m16, 1`, `D1 /7` (R404). -/
  | sarRm16One (e : RM Reg16)
  /-- `SAR r/m8, CL`, `D2 /7` (R404). -/
  | sarRm8Cl (e : RM Reg8)
  /-- `SAR r/m16, CL`, `D3 /7` (R404). -/
  | sarRm16Cl (e : RM Reg16)
  -- String instructions and repeat prefixes (44_string.md)
  /-- `MOVSB`, `A4` (R432). -/
  | movsb
  /-- `MOVSW`, `A5` (R432). -/
  | movsw
  /-- `CMPSB`, `A6` (R433). -/
  | cmpsb
  /-- `CMPSW`, `A7` (R433). -/
  | cmpsw
  /-- `STOSB`, `AA` (R436). -/
  | stosb
  /-- `STOSW`, `AB` (R436). -/
  | stosw
  /-- `LODSB`, `AC` (R435). -/
  | lodsb
  /-- `LODSW`, `AD` (R435). -/
  | lodsw
  /-- `SCASB`, `AE` (R434). -/
  | scasb
  /-- `SCASW`, `AF` (R434). -/
  | scasw
  /-- `REPNE/REPNZ prefix`, `F2` (R430). -/
  | repne
  /-- `REP/REPE/REPZ prefix`, `F3` (R430). -/
  | rep
  -- Control transfer (45_control_transfer.md)
  /-- `CALL rel16`, `E8` (R451). -/
  | callRel16 (d : Word)
  /-- `CALL r/m16`, `FF /2` (R451). -/
  | callRm16 (e : RM Reg16)
  /-- `CALL ptr16:16`, `9A` (R451). -/
  | callFar (off : Word) (seg : Word)
  /-- `CALL m16:16`, `FF /3` (R451). -/
  | callFarM (m : MemOp)
  /-- `JMP rel16`, `E9` (R452). -/
  | jmpRel16 (d : Word)
  /-- `JMP rel8`, `EB` (R452). -/
  | jmpRel8 (d : Byte)
  /-- `JMP r/m16`, `FF /4` (R452). -/
  | jmpRm16 (e : RM Reg16)
  /-- `JMP ptr16:16`, `EA` (R452). -/
  | jmpFar (off : Word) (seg : Word)
  /-- `JMP m16:16`, `FF /5` (R452). -/
  | jmpFarM (m : MemOp)
  /-- `RET (near)`, `C3` (R453). -/
  | retNear
  /-- `RET imm16 (near)`, `C2` (R453). -/
  | retNearImm16 (v : Word)
  /-- `RET (far)`, `CB` (R453). -/
  | retFar
  /-- `RET imm16 (far)`, `CA` (R453). -/
  | retFarImm16 (v : Word)
  /-- `JO rel8`, `70` (R454). -/
  | jo (d : Byte)
  /-- `JNO rel8`, `71` (R455). -/
  | jno (d : Byte)
  /-- `JB/JNAE/JC rel8`, `72` (R456). -/
  | jb (d : Byte)
  /-- `JNB/JAE/JNC rel8`, `73` (R457). -/
  | jnb (d : Byte)
  /-- `JE/JZ rel8`, `74` (R458). -/
  | je (d : Byte)
  /-- `JNE/JNZ rel8`, `75` (R459). -/
  | jne (d : Byte)
  /-- `JBE/JNA rel8`, `76` (R460). -/
  | jbe (d : Byte)
  /-- `JNBE/JA rel8`, `77` (R461). -/
  | jnbe (d : Byte)
  /-- `JS rel8`, `78` (R462). -/
  | js (d : Byte)
  /-- `JNS rel8`, `79` (R463). -/
  | jns (d : Byte)
  /-- `JP/JPE rel8`, `7A` (R464). -/
  | jp (d : Byte)
  /-- `JNP/JPO rel8`, `7B` (R465). -/
  | jnp (d : Byte)
  /-- `JL/JNGE rel8`, `7C` (R466). -/
  | jl (d : Byte)
  /-- `JNL/JGE rel8`, `7D` (R467). -/
  | jnl (d : Byte)
  /-- `JLE/JNG rel8`, `7E` (R468). -/
  | jle (d : Byte)
  /-- `JNLE/JG rel8`, `7F` (R469). -/
  | jnle (d : Byte)
  /-- `LOOP rel8`, `E2` (R470). -/
  | loop (d : Byte)
  /-- `LOOPE/LOOPZ rel8`, `E1` (R471). -/
  | loope (d : Byte)
  /-- `LOOPNE/LOOPNZ rel8`, `E0` (R472). -/
  | loopne (d : Byte)
  /-- `JCXZ rel8`, `E3` (R473). -/
  | jcxz (d : Byte)
  /-- `INT imm8`, `CD` (R474). -/
  | intN (n : Byte)
  /-- `INT 3`, `CC` (R475). -/
  | int3
  /-- `INTO`, `CE` (R476). -/
  | into
  /-- `IRET`, `CF` (R477). -/
  | iret
  -- Processor control (46_processor_control.md), LOCK, WAIT, HLT (40_source_named_instructions.md)
  /-- `ESC opcode6, r/m`, `D8` (R512). -/
  | esc (x : BitVec 6) (e : RM Reg16)
  /-- an encoding Intel does not document: its opcode byte and, where a second byte decides, that byte (0 otherwise) (R275). -/
  | notUsed (op : Byte) (next : Byte)
  /-- `CLC`, `F8` (R500). -/
  | clc
  /-- `CMC`, `F5` (R501). -/
  | cmc
  /-- `STC`, `F9` (R502). -/
  | stc
  /-- `CLD`, `FC` (R503). -/
  | cld
  /-- `STD`, `FD` (R504). -/
  | std
  /-- `CLI`, `FA` (R505). -/
  | cli
  /-- `STI`, `FB` (R506). -/
  | sti
  /-- `NOP`, `90` (R507). -/
  | nop
  /-- `ES: prefix`, `26` (R508). -/
  | esOverride
  /-- `CS: prefix`, `2E` (R508). -/
  | csOverride
  /-- `SS: prefix`, `36` (R508). -/
  | ssOverride
  /-- `DS: prefix`, `3E` (R508). -/
  | dsOverride
  /-- `LOCK prefix`, `F0` (R300). -/
  | lock
  /-- `WAIT`, `9B` (R301). -/
  | wait
  /-- `HLT`, `F4` (R302). -/
  | hlt
  deriving DecidableEq, Repr

end Sys2Proof
end

