-- ==== Sys2Proof/WellFormed.lean ====
section
/-! DEFINITION. Which terms of `Instr` some bytes encode. Register numbers, displacements and immediates have the
width of their field by their type; what remains is checked here (R264, R273, R274, R275, R314). -/

namespace Sys2Proof

/-- A base without displacement exists for every base but BP: `mod` = 00 with `rm` = 110 is the direct address
(R264). -/
def MemOp.wf : MemOp → Bool
  | .direct _ => true
  | .based b .none => decide (b ≠ .bp)
  | .based _ (.d8 _) => true
  | .based _ (.d16 _) => true

/-- An `r/m` operand is well formed when its memory operand is. -/
def RM.wf {ρ : Type} : RM ρ → Bool
  | .reg _ => true
  | .mem m => m.wf

/-- The opcode bytes Intel does not use (R275 (a)). -/
def loneUnusedOps : List Byte :=
  [0x0F, 0x60, 0x61, 0x62, 0x63, 0x64, 0x65, 0x66, 0x67, 0x68, 0x69, 0x6A, 0x6B, 0x6C, 0x6D, 0x6E, 0x6F] ++
  [0xC0, 0xC1, 0xC8, 0xC9, 0xD6, 0xF1]

/-- The second bytes Intel does not use after an opcode byte it does (R274, R275 (b) to (e)): `md` and `reg` are bits
7:6 and 5:3 of the second byte. -/
def pairUnused (op next : Byte) : Bool :=
  let md := next.toNat / 64
  let reg := next.toNat / 8 % 8
  match op.toNat with
  | 0x82 | 0x83 => decide (reg = 1 ∨ reg = 4 ∨ reg = 6)
  | 0x8C => decide (4 ≤ reg)
  | 0x8E => decide (reg = 1 ∨ 4 ≤ reg)
  | 0x8D | 0xC4 | 0xC5 => decide (md = 3)
  | 0x8F | 0xC6 | 0xC7 => decide (reg ≠ 0)
  | 0xD0 | 0xD1 | 0xD2 | 0xD3 => decide (reg = 6)
  | 0xD4 | 0xD5 => decide (next.toNat ≠ 0x0A)
  | 0xF6 | 0xF7 => decide (reg = 1)
  | 0xFE => decide (2 ≤ reg)
  | 0xFF => decide (reg = 7 ∨ ((reg = 3 ∨ reg = 5) ∧ md = 3))
  | _ => false

/-- An instruction some bytes encode. -/
def Instr.wf : Instr → Bool
  | .addRm8R8 e _ => e.wf
  | .addRm16R16 e _ => e.wf
  | .addR8Rm8 _ e => e.wf
  | .addR16Rm16 _ e => e.wf
  | .addAlImm8 _ => true
  | .addAxImm16 _ => true
  | .orRm8R8 e _ => e.wf
  | .orRm16R16 e _ => e.wf
  | .orR8Rm8 _ e => e.wf
  | .orR16Rm16 _ e => e.wf
  | .orAlImm8 _ => true
  | .orAxImm16 _ => true
  | .adcRm8R8 e _ => e.wf
  | .adcRm16R16 e _ => e.wf
  | .adcR8Rm8 _ e => e.wf
  | .adcR16Rm16 _ e => e.wf
  | .adcAlImm8 _ => true
  | .adcAxImm16 _ => true
  | .sbbRm8R8 e _ => e.wf
  | .sbbRm16R16 e _ => e.wf
  | .sbbR8Rm8 _ e => e.wf
  | .sbbR16Rm16 _ e => e.wf
  | .sbbAlImm8 _ => true
  | .sbbAxImm16 _ => true
  | .andRm8R8 e _ => e.wf
  | .andRm16R16 e _ => e.wf
  | .andR8Rm8 _ e => e.wf
  | .andR16Rm16 _ e => e.wf
  | .andAlImm8 _ => true
  | .andAxImm16 _ => true
  | .subRm8R8 e _ => e.wf
  | .subRm16R16 e _ => e.wf
  | .subR8Rm8 _ e => e.wf
  | .subR16Rm16 _ e => e.wf
  | .subAlImm8 _ => true
  | .subAxImm16 _ => true
  | .xorRm8R8 e _ => e.wf
  | .xorRm16R16 e _ => e.wf
  | .xorR8Rm8 _ e => e.wf
  | .xorR16Rm16 _ e => e.wf
  | .xorAlImm8 _ => true
  | .xorAxImm16 _ => true
  | .cmpRm8R8 e _ => e.wf
  | .cmpRm16R16 e _ => e.wf
  | .cmpR8Rm8 _ e => e.wf
  | .cmpR16Rm16 _ e => e.wf
  | .cmpAlImm8 _ => true
  | .cmpAxImm16 _ => true
  | .addRm8Imm8 e _ => e.wf
  | .orRm8Imm8 e _ => e.wf
  | .adcRm8Imm8 e _ => e.wf
  | .sbbRm8Imm8 e _ => e.wf
  | .andRm8Imm8 e _ => e.wf
  | .subRm8Imm8 e _ => e.wf
  | .xorRm8Imm8 e _ => e.wf
  | .cmpRm8Imm8 e _ => e.wf
  | .addRm16Imm16 e _ => e.wf
  | .orRm16Imm16 e _ => e.wf
  | .adcRm16Imm16 e _ => e.wf
  | .sbbRm16Imm16 e _ => e.wf
  | .andRm16Imm16 e _ => e.wf
  | .subRm16Imm16 e _ => e.wf
  | .xorRm16Imm16 e _ => e.wf
  | .cmpRm16Imm16 e _ => e.wf
  | .addRm8Imm8Alt e _ => e.wf
  | .adcRm8Imm8Alt e _ => e.wf
  | .sbbRm8Imm8Alt e _ => e.wf
  | .subRm8Imm8Alt e _ => e.wf
  | .cmpRm8Imm8Alt e _ => e.wf
  | .addRm16Simm8 e _ => e.wf
  | .adcRm16Simm8 e _ => e.wf
  | .sbbRm16Simm8 e _ => e.wf
  | .subRm16Simm8 e _ => e.wf
  | .cmpRm16Simm8 e _ => e.wf
  | .pushEs => true
  | .pushCs => true
  | .pushSs => true
  | .pushDs => true
  | .popEs => true
  | .popSs => true
  | .popDs => true
  | .pushR16 _ => true
  | .pushRm16 e => e.wf
  | .popR16 _ => true
  | .popRm16 e => e.wf
  | .movRm8R8 e _ => e.wf
  | .movRm16R16 e _ => e.wf
  | .movR8Rm8 _ e => e.wf
  | .movR16Rm16 _ e => e.wf
  | .movRm16Sreg e _ => e.wf
  | .movEsRm16 e => e.wf
  | .movSsRm16 e => e.wf
  | .movDsRm16 e => e.wf
  | .movAlMoffs _ => true
  | .movAxMoffs _ => true
  | .movMoffsAl _ => true
  | .movMoffsAx _ => true
  | .movR8Imm8 _ _ => true
  | .movR16Imm16 _ _ => true
  | .movRm8Imm8 e _ => e.wf
  | .movRm16Imm16 e _ => e.wf
  | .xchgR8Rm8 _ e => e.wf
  | .xchgR16Rm16 _ e => e.wf
  | .xchgAxR16 r => decide (r ≠ .ax)
  | .xlat => true
  | .lea _ m => m.wf
  | .lds _ m => m.wf
  | .les _ m => m.wf
  | .lahf => true
  | .sahf => true
  | .pushf => true
  | .popf => true
  | .inAlImm8 _ => true
  | .inAxImm8 _ => true
  | .inAlDx => true
  | .inAxDx => true
  | .outImm8Al _ => true
  | .outImm8Ax _ => true
  | .outDxAl => true
  | .outDxAx => true
  | .incR16 _ => true
  | .incRm8 e => e.wf
  | .incRm16 e => e.wf
  | .decR16 _ => true
  | .decRm8 e => e.wf
  | .decRm16 e => e.wf
  | .aaa => true
  | .daa => true
  | .aas => true
  | .das => true
  | .aam => true
  | .aad => true
  | .cbw => true
  | .cwd => true
  | .negRm8 e => e.wf
  | .negRm16 e => e.wf
  | .mulRm8 e => e.wf
  | .mulRm16 e => e.wf
  | .imulRm8 e => e.wf
  | .imulRm16 e => e.wf
  | .divRm8 e => e.wf
  | .divRm16 e => e.wf
  | .idivRm8 e => e.wf
  | .idivRm16 e => e.wf
  | .notRm8 e => e.wf
  | .notRm16 e => e.wf
  | .testRm8R8 e _ => e.wf
  | .testRm16R16 e _ => e.wf
  | .testAlImm8 _ => true
  | .testAxImm16 _ => true
  | .testRm8Imm8 e _ => e.wf
  | .testRm16Imm16 e _ => e.wf
  | .rolRm8One e => e.wf
  | .rolRm16One e => e.wf
  | .rolRm8Cl e => e.wf
  | .rolRm16Cl e => e.wf
  | .rorRm8One e => e.wf
  | .rorRm16One e => e.wf
  | .rorRm8Cl e => e.wf
  | .rorRm16Cl e => e.wf
  | .rclRm8One e => e.wf
  | .rclRm16One e => e.wf
  | .rclRm8Cl e => e.wf
  | .rclRm16Cl e => e.wf
  | .rcrRm8One e => e.wf
  | .rcrRm16One e => e.wf
  | .rcrRm8Cl e => e.wf
  | .rcrRm16Cl e => e.wf
  | .shlRm8One e => e.wf
  | .shlRm16One e => e.wf
  | .shlRm8Cl e => e.wf
  | .shlRm16Cl e => e.wf
  | .shrRm8One e => e.wf
  | .shrRm16One e => e.wf
  | .shrRm8Cl e => e.wf
  | .shrRm16Cl e => e.wf
  | .sarRm8One e => e.wf
  | .sarRm16One e => e.wf
  | .sarRm8Cl e => e.wf
  | .sarRm16Cl e => e.wf
  | .movsb => true
  | .movsw => true
  | .cmpsb => true
  | .cmpsw => true
  | .stosb => true
  | .stosw => true
  | .lodsb => true
  | .lodsw => true
  | .scasb => true
  | .scasw => true
  | .repne => true
  | .rep => true
  | .callRel16 _ => true
  | .callRm16 e => e.wf
  | .callFar _ _ => true
  | .callFarM m => m.wf
  | .jmpRel16 _ => true
  | .jmpRel8 _ => true
  | .jmpRm16 e => e.wf
  | .jmpFar _ _ => true
  | .jmpFarM m => m.wf
  | .retNear => true
  | .retNearImm16 _ => true
  | .retFar => true
  | .retFarImm16 _ => true
  | .jo _ => true
  | .jno _ => true
  | .jb _ => true
  | .jnb _ => true
  | .je _ => true
  | .jne _ => true
  | .jbe _ => true
  | .jnbe _ => true
  | .js _ => true
  | .jns _ => true
  | .jp _ => true
  | .jnp _ => true
  | .jl _ => true
  | .jnl _ => true
  | .jle _ => true
  | .jnle _ => true
  | .loop _ => true
  | .loope _ => true
  | .loopne _ => true
  | .jcxz _ => true
  | .intN _ => true
  | .int3 => true
  | .into => true
  | .iret => true
  | .esc _ e => e.wf
  | .notUsed op next =>
    (decide (op ∈ loneUnusedOps) && decide (next = 0)) || pairUnused op next
  | .clc => true
  | .cmc => true
  | .stc => true
  | .cld => true
  | .std => true
  | .cli => true
  | .sti => true
  | .nop => true
  | .esOverride => true
  | .csOverride => true
  | .ssOverride => true
  | .dsOverride => true
  | .lock => true
  | .wait => true
  | .hlt => true

end Sys2Proof
end

