-- ==== Sys2Proof/Decode.lean ====
section
/-! DEFINITION. The decoder, total on any bytes, and the encoder, both from the encoding tables of `30_encoding.md`
(R260 to R275) and the layout of `opcode_table.json` (R279). A prefix byte decodes to an instruction of its own
(log entry 8). An encoding Intel does not document decodes to `notUsed`, which the machine refuses by name (R275). -/

namespace Sys2Proof

/-! ## Encoding numbers -/

/-- The 16-bit register with an encoding number (R30). -/
def Reg16.ofNum (n : BitVec 3) : Reg16 :=
  match n with
  | 0#3 => .ax | 1#3 => .cx | 2#3 => .dx | 3#3 => .bx | 4#3 => .sp | 5#3 => .bp | 6#3 => .si | _ => .di

/-- The encoding number of a 16-bit register (R30). -/
def Reg16.num : Reg16 → BitVec 3
  | .ax => 0 | .cx => 1 | .dx => 2 | .bx => 3 | .sp => 4 | .bp => 5 | .si => 6 | .di => 7

/-- The 8-bit register with an encoding number (R31). -/
def Reg8.ofNum (n : BitVec 3) : Reg8 :=
  match n with
  | 0#3 => .al | 1#3 => .cl | 2#3 => .dl | 3#3 => .bl | 4#3 => .ah | 5#3 => .ch | 6#3 => .dh | _ => .bh

/-- The encoding number of an 8-bit register (R31). -/
def Reg8.num : Reg8 → BitVec 3
  | .al => 0 | .cl => 1 | .dl => 2 | .bl => 3 | .ah => 4 | .ch => 5 | .dh => 6 | .bh => 7

/-- The segment register with an encoding number (R24). -/
def SegReg.ofNum (n : BitVec 2) : SegReg :=
  match n with
  | 0#2 => .es | 1#2 => .cs | 2#2 => .ss | _ => .ds

/-- The encoding number of a segment register (R24). -/
def SegReg.num : SegReg → BitVec 2
  | .es => 0 | .cs => 1 | .ss => 2 | .ds => 3

/-- The base an `rm` field names (R264); `rm` = 110 is BP, the direct address of `mod` = 00 being apart. -/
def Base.ofNum (n : BitVec 3) : Base :=
  match n with
  | 0#3 => .bxsi | 1#3 => .bxdi | 2#3 => .bpsi | 3#3 => .bpdi | 4#3 => .si | 5#3 => .di | 6#3 => .bp | _ => .bx

/-- The `rm` field of a base (R264). -/
def Base.num : Base → BitVec 3
  | .bxsi => 0 | .bxdi => 1 | .bpsi => 2 | .bpdi => 3 | .si => 4 | .di => 5 | .bp => 6 | .bx => 7

/-! ## The ModRM byte and in-line operands -/

/-- `mod`, bits 7:6 of a ModRM byte (R263). -/
def modField (m : Byte) : BitVec 2 := m.extractLsb' 6 2

/-- `reg`, bits 5:3 of a ModRM byte (R263). -/
def regField (m : Byte) : BitVec 3 := m.extractLsb' 3 3

/-- `rm`, bits 2:0 of a ModRM byte (R263). -/
def rmField (m : Byte) : BitVec 3 := m.extractLsb' 0 3

/-- A ModRM byte from its fields (R263). -/
def modRM (md : BitVec 2) (reg rm : BitVec 3) : Byte := md ++ reg ++ rm

/-- The low byte of a word. -/
def lowByte (v : Word) : Byte := v.extractLsb' 0 8

/-- The high byte of a word. -/
def highByte (v : Word) : Byte := v.extractLsb' 8 8

/-- A word from its bytes. -/
def wordOf (lo hi : Byte) : Word := hi ++ lo

/-- What a decoding step answers: nothing when bytes are missing, or a result and the bytes left. -/
abbrev Parse (α : Type) := Option (α × List Byte)

/-- A 16-bit field, low byte first (R262). -/
def takeWord : List Byte → Parse Word
  | lo :: hi :: bs => some (wordOf lo hi, bs)
  | _ => none

/-- A memory operand from `mod` (not 11), `rm` and the displacement bytes that follow (R264). -/
def takeMem (md : BitVec 2) (rm : BitVec 3) (bs : List Byte) : Parse MemOp :=
  match md with
  | 0#2 =>
    if rm = 6#3 then (takeWord bs).map fun p => (.direct p.1, p.2)
    else some (.based (Base.ofNum rm) .none, bs)
  | 1#2 =>
    match bs with
    | d :: bs => some (.based (Base.ofNum rm) (.d8 d), bs)
    | [] => none
  | _ => (takeWord bs).map fun p => (.based (Base.ofNum rm) (.d16 p.1), p.2)

/-- The `r/m` operand of a ModRM byte (R263). -/
def takeRM {ρ : Type} (ofNum : BitVec 3 → ρ) (m : Byte) (bs : List Byte) : Parse (RM ρ) :=
  if modField m = 3#2 then some (.reg (ofNum (rmField m)), bs)
  else (takeMem (modField m) (rmField m) bs).map fun p => (.mem p.1, p.2)

/-! ## Instruction layouts (R260): what follows the opcode byte -/

/-- An opcode byte alone. -/
def bare (i : Instr) (bs : List Byte) : Parse Instr := some (i, bs)

/-- `op imm8`, and the other layouts with one byte: `op rel8`, a port, an interrupt type. -/
def withByte (f : Byte → Instr) : List Byte → Parse Instr
  | v :: bs => some (f v, bs)
  | [] => none

/-- `op imm16`, `op rel16` and `op moffs16`. -/
def withWord (f : Word → Instr) (bs : List Byte) : Parse Instr :=
  (takeWord bs).map fun p => (f p.1, p.2)

/-- `op ptr16:16`: offset, then segment (R262). -/
def withPtr (f : Word → Word → Instr) (bs : List Byte) : Parse Instr :=
  (takeWord bs).bind fun p => (takeWord p.2).map fun q => (f p.1 q.1, q.2)

/-- `op modrm`, once the ModRM byte is read: what to do with it and the bytes after it. -/
def withModRM (f : Byte → List Byte → Parse Instr) : List Byte → Parse Instr
  | m :: bs => f m bs
  | [] => none

/-- An 8-bit `r/m` operand. -/
def rm8 (f : RM Reg8 → Instr) (m : Byte) (bs : List Byte) : Parse Instr :=
  (takeRM Reg8.ofNum m bs).map fun p => (f p.1, p.2)

/-- A 16-bit `r/m` operand. -/
def rm16 (f : RM Reg16 → Instr) (m : Byte) (bs : List Byte) : Parse Instr :=
  (takeRM Reg16.ofNum m bs).map fun p => (f p.1, p.2)

/-- An 8-bit `r/m` operand and an 8-bit register in `reg`. -/
def rm8reg (f : RM Reg8 → Reg8 → Instr) (m : Byte) (bs : List Byte) : Parse Instr :=
  rm8 (fun e => f e (Reg8.ofNum (regField m))) m bs

/-- A 16-bit `r/m` operand and a 16-bit register in `reg`. -/
def rm16reg (f : RM Reg16 → Reg16 → Instr) (m : Byte) (bs : List Byte) : Parse Instr :=
  rm16 (fun e => f e (Reg16.ofNum (regField m))) m bs

/-- An 8-bit `r/m` operand, then an immediate byte (the immediate follows the displacement, R268). -/
def rm8imm (f : RM Reg8 → Byte → Instr) (m : Byte) (bs : List Byte) : Parse Instr :=
  (takeRM Reg8.ofNum m bs).bind fun p => withByte (f p.1) p.2

/-- A 16-bit `r/m` operand, then an immediate byte. -/
def rm16simm (f : RM Reg16 → Byte → Instr) (m : Byte) (bs : List Byte) : Parse Instr :=
  (takeRM Reg16.ofNum m bs).bind fun p => withByte (f p.1) p.2

/-- A 16-bit `r/m` operand, then an immediate word. -/
def rm16imm (f : RM Reg16 → Word → Instr) (m : Byte) (bs : List Byte) : Parse Instr :=
  (takeRM Reg16.ofNum m bs).bind fun p => withWord (f p.1) p.2

/-- A memory operand only: `mod` = 11 is not used (R275 (d)). -/
def memOnly (op : Byte) (f : MemOp → Instr) (m : Byte) (bs : List Byte) : Parse Instr :=
  if modField m = 3#2 then some (.notUsed op m, bs)
  else (takeMem (modField m) (rmField m) bs).map fun p => (f p.1, p.2)

/-- A memory operand only, and a 16-bit register in `reg`. -/
def memReg (op : Byte) (f : Reg16 → MemOp → Instr) (m : Byte) (bs : List Byte) : Parse Instr :=
  memOnly op (f (Reg16.ofNum (regField m))) m bs

/-- A second opcode byte that decides, not used for this value (R275). -/
def unused (op m : Byte) (bs : List Byte) : Parse Instr := some (.notUsed op m, bs)

/-- The second byte 0AH of `AAM` and `AAD`; any other is not used (R275 (e)). -/
def withTen (op : Byte) (i : Instr) (m : Byte) (bs : List Byte) : Parse Instr :=
  if m = 0x0A#8 then some (i, bs) else unused op m bs

/-! ## The group opcodes (R274): `reg` completes the opcode -/

/-- Opcode `80`: group 1, byte immediate (R274). -/
def group80 (m : Byte) (bs : List Byte) : Parse Instr :=
  match regField m with
  | 0#3 => rm8imm .addRm8Imm8 m bs
  | 1#3 => rm8imm .orRm8Imm8 m bs
  | 2#3 => rm8imm .adcRm8Imm8 m bs
  | 3#3 => rm8imm .sbbRm8Imm8 m bs
  | 4#3 => rm8imm .andRm8Imm8 m bs
  | 5#3 => rm8imm .subRm8Imm8 m bs
  | 6#3 => rm8imm .xorRm8Imm8 m bs
  | _ => rm8imm .cmpRm8Imm8 m bs

/-- Opcode `81`: group 1, word immediate (R274). -/
def group81 (m : Byte) (bs : List Byte) : Parse Instr :=
  match regField m with
  | 0#3 => rm16imm .addRm16Imm16 m bs
  | 1#3 => rm16imm .orRm16Imm16 m bs
  | 2#3 => rm16imm .adcRm16Imm16 m bs
  | 3#3 => rm16imm .sbbRm16Imm16 m bs
  | 4#3 => rm16imm .andRm16Imm16 m bs
  | 5#3 => rm16imm .subRm16Imm16 m bs
  | 6#3 => rm16imm .xorRm16Imm16 m bs
  | _ => rm16imm .cmpRm16Imm16 m bs

/-- Opcode `82`: group 1, second encoding of `80` (R274). -/
def group82 (m : Byte) (bs : List Byte) : Parse Instr :=
  match regField m with
  | 0#3 => rm8imm .addRm8Imm8Alt m bs
  | 2#3 => rm8imm .adcRm8Imm8Alt m bs
  | 3#3 => rm8imm .sbbRm8Imm8Alt m bs
  | 5#3 => rm8imm .subRm8Imm8Alt m bs
  | 7#3 => rm8imm .cmpRm8Imm8Alt m bs
  | _ => unused 0x82#8 m bs

/-- Opcode `83`: group 1, sign-extended immediate (R274). -/
def group83 (m : Byte) (bs : List Byte) : Parse Instr :=
  match regField m with
  | 0#3 => rm16simm .addRm16Simm8 m bs
  | 2#3 => rm16simm .adcRm16Simm8 m bs
  | 3#3 => rm16simm .sbbRm16Simm8 m bs
  | 5#3 => rm16simm .subRm16Simm8 m bs
  | 7#3 => rm16simm .cmpRm16Simm8 m bs
  | _ => unused 0x83#8 m bs

/-- Opcode `8E`: `MOV sreg, r/m16`; `/1` would load CS (R275 (c)) (R274). -/
def group8E (m : Byte) (bs : List Byte) : Parse Instr :=
  match regField m with
  | 0#3 => rm16 .movEsRm16 m bs
  | 2#3 => rm16 .movSsRm16 m bs
  | 3#3 => rm16 .movDsRm16 m bs
  | _ => unused 0x8E#8 m bs

/-- Opcode `8F`: `POP r/m16` (R274). -/
def group8F (m : Byte) (bs : List Byte) : Parse Instr :=
  match regField m with
  | 0#3 => rm16 .popRm16 m bs
  | _ => unused 0x8F#8 m bs

/-- Opcode `C6`: `MOV r/m8, imm8` (R274). -/
def groupC6 (m : Byte) (bs : List Byte) : Parse Instr :=
  match regField m with
  | 0#3 => rm8imm .movRm8Imm8 m bs
  | _ => unused 0xC6#8 m bs

/-- Opcode `C7`: `MOV r/m16, imm16` (R274). -/
def groupC7 (m : Byte) (bs : List Byte) : Parse Instr :=
  match regField m with
  | 0#3 => rm16imm .movRm16Imm16 m bs
  | _ => unused 0xC7#8 m bs

/-- Opcode `D0`: group 2, byte, count 1 (R274). -/
def groupD0 (m : Byte) (bs : List Byte) : Parse Instr :=
  match regField m with
  | 0#3 => rm8 .rolRm8One m bs
  | 1#3 => rm8 .rorRm8One m bs
  | 2#3 => rm8 .rclRm8One m bs
  | 3#3 => rm8 .rcrRm8One m bs
  | 4#3 => rm8 .shlRm8One m bs
  | 5#3 => rm8 .shrRm8One m bs
  | 7#3 => rm8 .sarRm8One m bs
  | _ => unused 0xD0#8 m bs

/-- Opcode `D1`: group 2, word, count 1 (R274). -/
def groupD1 (m : Byte) (bs : List Byte) : Parse Instr :=
  match regField m with
  | 0#3 => rm16 .rolRm16One m bs
  | 1#3 => rm16 .rorRm16One m bs
  | 2#3 => rm16 .rclRm16One m bs
  | 3#3 => rm16 .rcrRm16One m bs
  | 4#3 => rm16 .shlRm16One m bs
  | 5#3 => rm16 .shrRm16One m bs
  | 7#3 => rm16 .sarRm16One m bs
  | _ => unused 0xD1#8 m bs

/-- Opcode `D2`: group 2, byte, count in CL (R274). -/
def groupD2 (m : Byte) (bs : List Byte) : Parse Instr :=
  match regField m with
  | 0#3 => rm8 .rolRm8Cl m bs
  | 1#3 => rm8 .rorRm8Cl m bs
  | 2#3 => rm8 .rclRm8Cl m bs
  | 3#3 => rm8 .rcrRm8Cl m bs
  | 4#3 => rm8 .shlRm8Cl m bs
  | 5#3 => rm8 .shrRm8Cl m bs
  | 7#3 => rm8 .sarRm8Cl m bs
  | _ => unused 0xD2#8 m bs

/-- Opcode `D3`: group 2, word, count in CL (R274). -/
def groupD3 (m : Byte) (bs : List Byte) : Parse Instr :=
  match regField m with
  | 0#3 => rm16 .rolRm16Cl m bs
  | 1#3 => rm16 .rorRm16Cl m bs
  | 2#3 => rm16 .rclRm16Cl m bs
  | 3#3 => rm16 .rcrRm16Cl m bs
  | 4#3 => rm16 .shlRm16Cl m bs
  | 5#3 => rm16 .shrRm16Cl m bs
  | 7#3 => rm16 .sarRm16Cl m bs
  | _ => unused 0xD3#8 m bs

/-- Opcode `F6`: group 3, byte (R274). -/
def groupF6 (m : Byte) (bs : List Byte) : Parse Instr :=
  match regField m with
  | 0#3 => rm8imm .testRm8Imm8 m bs
  | 2#3 => rm8 .notRm8 m bs
  | 3#3 => rm8 .negRm8 m bs
  | 4#3 => rm8 .mulRm8 m bs
  | 5#3 => rm8 .imulRm8 m bs
  | 6#3 => rm8 .divRm8 m bs
  | 7#3 => rm8 .idivRm8 m bs
  | _ => unused 0xF6#8 m bs

/-- Opcode `F7`: group 3, word (R274). -/
def groupF7 (m : Byte) (bs : List Byte) : Parse Instr :=
  match regField m with
  | 0#3 => rm16imm .testRm16Imm16 m bs
  | 2#3 => rm16 .notRm16 m bs
  | 3#3 => rm16 .negRm16 m bs
  | 4#3 => rm16 .mulRm16 m bs
  | 5#3 => rm16 .imulRm16 m bs
  | 6#3 => rm16 .divRm16 m bs
  | 7#3 => rm16 .idivRm16 m bs
  | _ => unused 0xF7#8 m bs

/-- Opcode `FE`: group 4 (R274). -/
def groupFE (m : Byte) (bs : List Byte) : Parse Instr :=
  match regField m with
  | 0#3 => rm8 .incRm8 m bs
  | 1#3 => rm8 .decRm8 m bs
  | _ => unused 0xFE#8 m bs

/-- Opcode `FF`: group 5 (R274). -/
def groupFF (m : Byte) (bs : List Byte) : Parse Instr :=
  match regField m with
  | 0#3 => rm16 .incRm16 m bs
  | 1#3 => rm16 .decRm16 m bs
  | 2#3 => rm16 .callRm16 m bs
  | 3#3 => memOnly 0xFF#8 .callFarM m bs
  | 4#3 => rm16 .jmpRm16 m bs
  | 5#3 => memOnly 0xFF#8 .jmpFarM m bs
  | 6#3 => rm16 .pushRm16 m bs
  | _ => unused 0xFF#8 m bs

/-- Opcode `8C`: `MOV r/m16, sreg`; bit 5 of the ModRM byte is 0 (R274, R275 (b)). -/
def movSreg (m : Byte) (bs : List Byte) : Parse Instr :=
  if m.getLsbD 5 then unused 0x8C#8 m bs
  else rm16 (fun e => .movRm16Sreg e (SegReg.ofNum (m.extractLsb' 3 2))) m bs

/-! ## The opcode map (R273) -/

/-- The instruction that begins with an opcode byte, from the bytes after it. -/
def decodeOp (op : Byte) (bs : List Byte) : Parse Instr :=
  match op.toNat with
  | 0x00 => withModRM (rm8reg .addRm8R8) bs
  | 0x01 => withModRM (rm16reg .addRm16R16) bs
  | 0x02 => withModRM (rm8reg fun e r => .addR8Rm8 r e) bs
  | 0x03 => withModRM (rm16reg fun e r => .addR16Rm16 r e) bs
  | 0x04 => withByte .addAlImm8 bs
  | 0x05 => withWord .addAxImm16 bs
  | 0x06 => bare .pushEs bs
  | 0x07 => bare .popEs bs
  | 0x08 => withModRM (rm8reg .orRm8R8) bs
  | 0x09 => withModRM (rm16reg .orRm16R16) bs
  | 0x0A => withModRM (rm8reg fun e r => .orR8Rm8 r e) bs
  | 0x0B => withModRM (rm16reg fun e r => .orR16Rm16 r e) bs
  | 0x0C => withByte .orAlImm8 bs
  | 0x0D => withWord .orAxImm16 bs
  | 0x0E => bare .pushCs bs
  | 0x10 => withModRM (rm8reg .adcRm8R8) bs
  | 0x11 => withModRM (rm16reg .adcRm16R16) bs
  | 0x12 => withModRM (rm8reg fun e r => .adcR8Rm8 r e) bs
  | 0x13 => withModRM (rm16reg fun e r => .adcR16Rm16 r e) bs
  | 0x14 => withByte .adcAlImm8 bs
  | 0x15 => withWord .adcAxImm16 bs
  | 0x16 => bare .pushSs bs
  | 0x17 => bare .popSs bs
  | 0x18 => withModRM (rm8reg .sbbRm8R8) bs
  | 0x19 => withModRM (rm16reg .sbbRm16R16) bs
  | 0x1A => withModRM (rm8reg fun e r => .sbbR8Rm8 r e) bs
  | 0x1B => withModRM (rm16reg fun e r => .sbbR16Rm16 r e) bs
  | 0x1C => withByte .sbbAlImm8 bs
  | 0x1D => withWord .sbbAxImm16 bs
  | 0x1E => bare .pushDs bs
  | 0x1F => bare .popDs bs
  | 0x20 => withModRM (rm8reg .andRm8R8) bs
  | 0x21 => withModRM (rm16reg .andRm16R16) bs
  | 0x22 => withModRM (rm8reg fun e r => .andR8Rm8 r e) bs
  | 0x23 => withModRM (rm16reg fun e r => .andR16Rm16 r e) bs
  | 0x24 => withByte .andAlImm8 bs
  | 0x25 => withWord .andAxImm16 bs
  | 0x26 => bare .esOverride bs
  | 0x27 => bare .daa bs
  | 0x28 => withModRM (rm8reg .subRm8R8) bs
  | 0x29 => withModRM (rm16reg .subRm16R16) bs
  | 0x2A => withModRM (rm8reg fun e r => .subR8Rm8 r e) bs
  | 0x2B => withModRM (rm16reg fun e r => .subR16Rm16 r e) bs
  | 0x2C => withByte .subAlImm8 bs
  | 0x2D => withWord .subAxImm16 bs
  | 0x2E => bare .csOverride bs
  | 0x2F => bare .das bs
  | 0x30 => withModRM (rm8reg .xorRm8R8) bs
  | 0x31 => withModRM (rm16reg .xorRm16R16) bs
  | 0x32 => withModRM (rm8reg fun e r => .xorR8Rm8 r e) bs
  | 0x33 => withModRM (rm16reg fun e r => .xorR16Rm16 r e) bs
  | 0x34 => withByte .xorAlImm8 bs
  | 0x35 => withWord .xorAxImm16 bs
  | 0x36 => bare .ssOverride bs
  | 0x37 => bare .aaa bs
  | 0x38 => withModRM (rm8reg .cmpRm8R8) bs
  | 0x39 => withModRM (rm16reg .cmpRm16R16) bs
  | 0x3A => withModRM (rm8reg fun e r => .cmpR8Rm8 r e) bs
  | 0x3B => withModRM (rm16reg fun e r => .cmpR16Rm16 r e) bs
  | 0x3C => withByte .cmpAlImm8 bs
  | 0x3D => withWord .cmpAxImm16 bs
  | 0x3E => bare .dsOverride bs
  | 0x3F => bare .aas bs
  | 0x40 | 0x41 | 0x42 | 0x43 | 0x44 | 0x45 | 0x46 | 0x47
    => bare (.incR16 (Reg16.ofNum (op.extractLsb' 0 3))) bs
  | 0x48 | 0x49 | 0x4A | 0x4B | 0x4C | 0x4D | 0x4E | 0x4F
    => bare (.decR16 (Reg16.ofNum (op.extractLsb' 0 3))) bs
  | 0x50 | 0x51 | 0x52 | 0x53 | 0x54 | 0x55 | 0x56 | 0x57
    => bare (.pushR16 (Reg16.ofNum (op.extractLsb' 0 3))) bs
  | 0x58 | 0x59 | 0x5A | 0x5B | 0x5C | 0x5D | 0x5E | 0x5F
    => bare (.popR16 (Reg16.ofNum (op.extractLsb' 0 3))) bs
  | 0x70 => withByte .jo bs
  | 0x71 => withByte .jno bs
  | 0x72 => withByte .jb bs
  | 0x73 => withByte .jnb bs
  | 0x74 => withByte .je bs
  | 0x75 => withByte .jne bs
  | 0x76 => withByte .jbe bs
  | 0x77 => withByte .jnbe bs
  | 0x78 => withByte .js bs
  | 0x79 => withByte .jns bs
  | 0x7A => withByte .jp bs
  | 0x7B => withByte .jnp bs
  | 0x7C => withByte .jl bs
  | 0x7D => withByte .jnl bs
  | 0x7E => withByte .jle bs
  | 0x7F => withByte .jnle bs
  | 0x80 => withModRM group80 bs
  | 0x81 => withModRM group81 bs
  | 0x82 => withModRM group82 bs
  | 0x83 => withModRM group83 bs
  | 0x84 => withModRM (rm8reg .testRm8R8) bs
  | 0x85 => withModRM (rm16reg .testRm16R16) bs
  | 0x86 => withModRM (rm8reg fun e r => .xchgR8Rm8 r e) bs
  | 0x87 => withModRM (rm16reg fun e r => .xchgR16Rm16 r e) bs
  | 0x88 => withModRM (rm8reg .movRm8R8) bs
  | 0x89 => withModRM (rm16reg .movRm16R16) bs
  | 0x8A => withModRM (rm8reg fun e r => .movR8Rm8 r e) bs
  | 0x8B => withModRM (rm16reg fun e r => .movR16Rm16 r e) bs
  | 0x8C => withModRM movSreg bs
  | 0x8D => withModRM (memReg op .lea) bs
  | 0x8E => withModRM group8E bs
  | 0x8F => withModRM group8F bs
  | 0x90 => bare .nop bs
  | 0x91 | 0x92 | 0x93 | 0x94 | 0x95 | 0x96 | 0x97
    => bare (.xchgAxR16 (Reg16.ofNum (op.extractLsb' 0 3))) bs
  | 0x98 => bare .cbw bs
  | 0x99 => bare .cwd bs
  | 0x9A => withPtr .callFar bs
  | 0x9B => bare .wait bs
  | 0x9C => bare .pushf bs
  | 0x9D => bare .popf bs
  | 0x9E => bare .sahf bs
  | 0x9F => bare .lahf bs
  | 0xA0 => withWord .movAlMoffs bs
  | 0xA1 => withWord .movAxMoffs bs
  | 0xA2 => withWord .movMoffsAl bs
  | 0xA3 => withWord .movMoffsAx bs
  | 0xA4 => bare .movsb bs
  | 0xA5 => bare .movsw bs
  | 0xA6 => bare .cmpsb bs
  | 0xA7 => bare .cmpsw bs
  | 0xA8 => withByte .testAlImm8 bs
  | 0xA9 => withWord .testAxImm16 bs
  | 0xAA => bare .stosb bs
  | 0xAB => bare .stosw bs
  | 0xAC => bare .lodsb bs
  | 0xAD => bare .lodsw bs
  | 0xAE => bare .scasb bs
  | 0xAF => bare .scasw bs
  | 0xB0 | 0xB1 | 0xB2 | 0xB3 | 0xB4 | 0xB5 | 0xB6 | 0xB7
    => withByte (.movR8Imm8 (Reg8.ofNum (op.extractLsb' 0 3))) bs
  | 0xB8 | 0xB9 | 0xBA | 0xBB | 0xBC | 0xBD | 0xBE | 0xBF
    => withWord (.movR16Imm16 (Reg16.ofNum (op.extractLsb' 0 3))) bs
  | 0xC2 => withWord .retNearImm16 bs
  | 0xC3 => bare .retNear bs
  | 0xC4 => withModRM (memReg op .les) bs
  | 0xC5 => withModRM (memReg op .lds) bs
  | 0xC6 => withModRM groupC6 bs
  | 0xC7 => withModRM groupC7 bs
  | 0xCA => withWord .retFarImm16 bs
  | 0xCB => bare .retFar bs
  | 0xCC => bare .int3 bs
  | 0xCD => withByte .intN bs
  | 0xCE => bare .into bs
  | 0xCF => bare .iret bs
  | 0xD0 => withModRM groupD0 bs
  | 0xD1 => withModRM groupD1 bs
  | 0xD2 => withModRM groupD2 bs
  | 0xD3 => withModRM groupD3 bs
  | 0xD4 => withModRM (withTen op .aam) bs
  | 0xD5 => withModRM (withTen op .aad) bs
  | 0xD7 => bare .xlat bs
  | 0xD8 | 0xD9 | 0xDA | 0xDB | 0xDC | 0xDD | 0xDE | 0xDF
    => withModRM (fun m => rm16 (.esc (op.extractLsb' 0 3 ++ regField m)) m) bs
  | 0xE0 => withByte .loopne bs
  | 0xE1 => withByte .loope bs
  | 0xE2 => withByte .loop bs
  | 0xE3 => withByte .jcxz bs
  | 0xE4 => withByte .inAlImm8 bs
  | 0xE5 => withByte .inAxImm8 bs
  | 0xE6 => withByte .outImm8Al bs
  | 0xE7 => withByte .outImm8Ax bs
  | 0xE8 => withWord .callRel16 bs
  | 0xE9 => withWord .jmpRel16 bs
  | 0xEA => withPtr .jmpFar bs
  | 0xEB => withByte .jmpRel8 bs
  | 0xEC => bare .inAlDx bs
  | 0xED => bare .inAxDx bs
  | 0xEE => bare .outDxAl bs
  | 0xEF => bare .outDxAx bs
  | 0xF0 => bare .lock bs
  | 0xF2 => bare .repne bs
  | 0xF3 => bare .rep bs
  | 0xF4 => bare .hlt bs
  | 0xF5 => bare .cmc bs
  | 0xF6 => withModRM groupF6 bs
  | 0xF7 => withModRM groupF7 bs
  | 0xF8 => bare .clc bs
  | 0xF9 => bare .stc bs
  | 0xFA => bare .cli bs
  | 0xFB => bare .sti bs
  | 0xFC => bare .cld bs
  | 0xFD => bare .std bs
  | 0xFE => withModRM groupFE bs
  | 0xFF => withModRM groupFF bs
  | _ => bare (.notUsed op 0) bs

/-- One instruction from the bytes of the instruction stream: it and the bytes left, or nothing when the bytes end
before the instruction does (R272). -/
def decode : List Byte → Parse Instr
  | op :: bs => decodeOp op bs
  | [] => none

/-! ## The encoder -/

/-- The displacement bytes of a memory operand (R264). -/
def MemOp.tail : MemOp → List Byte
  | .direct a => [lowByte a, highByte a]
  | .based _ .none => []
  | .based _ (.d8 d) => [d]
  | .based _ (.d16 d) => [lowByte d, highByte d]

/-- `mod` and `rm` of a memory operand (R264). -/
def MemOp.modrm (reg : BitVec 3) : MemOp → Byte
  | .direct _ => modRM 0 reg 6
  | .based b .none => modRM 0 reg b.num
  | .based b (.d8 _) => modRM 1 reg b.num
  | .based b (.d16 _) => modRM 2 reg b.num

/-- The ModRM byte and displacement of a memory operand with a `reg` field. -/
def encMem (reg : BitVec 3) (m : MemOp) : List Byte := m.modrm reg :: m.tail

/-- The ModRM byte and displacement of an `r/m` operand with a `reg` field (R263). -/
def encRM {ρ : Type} (num : ρ → BitVec 3) (reg : BitVec 3) : RM ρ → List Byte
  | .reg r => [modRM 3 reg (num r)]
  | .mem m => encMem reg m

/-- A word in the instruction stream, low byte first (R262). -/
def encWord (v : Word) : List Byte := [lowByte v, highByte v]

/-- An opcode byte whose low three bits are a field (R261). -/
def opReg (op : BitVec 5) (r : BitVec 3) : Byte := op ++ r

/-- Opcodes of which no byte after the first decides (R275 (a)); for the others `notUsed` keeps the second byte. -/
def loneUnused (op : Byte) : Bool := decide (op ∈ loneUnusedOps)

/-- The bytes of an instruction. -/
def encode : Instr → List Byte
  | .addRm8R8 e r => 0x00 :: encRM Reg8.num r.num e
  | .addRm16R16 e r => 0x01 :: encRM Reg16.num r.num e
  | .addR8Rm8 r e => 0x02 :: encRM Reg8.num r.num e
  | .addR16Rm16 r e => 0x03 :: encRM Reg16.num r.num e
  | .addAlImm8 v => [0x04, v]
  | .addAxImm16 v => 0x05 :: encWord v
  | .orRm8R8 e r => 0x08 :: encRM Reg8.num r.num e
  | .orRm16R16 e r => 0x09 :: encRM Reg16.num r.num e
  | .orR8Rm8 r e => 0x0A :: encRM Reg8.num r.num e
  | .orR16Rm16 r e => 0x0B :: encRM Reg16.num r.num e
  | .orAlImm8 v => [0x0C, v]
  | .orAxImm16 v => 0x0D :: encWord v
  | .adcRm8R8 e r => 0x10 :: encRM Reg8.num r.num e
  | .adcRm16R16 e r => 0x11 :: encRM Reg16.num r.num e
  | .adcR8Rm8 r e => 0x12 :: encRM Reg8.num r.num e
  | .adcR16Rm16 r e => 0x13 :: encRM Reg16.num r.num e
  | .adcAlImm8 v => [0x14, v]
  | .adcAxImm16 v => 0x15 :: encWord v
  | .sbbRm8R8 e r => 0x18 :: encRM Reg8.num r.num e
  | .sbbRm16R16 e r => 0x19 :: encRM Reg16.num r.num e
  | .sbbR8Rm8 r e => 0x1A :: encRM Reg8.num r.num e
  | .sbbR16Rm16 r e => 0x1B :: encRM Reg16.num r.num e
  | .sbbAlImm8 v => [0x1C, v]
  | .sbbAxImm16 v => 0x1D :: encWord v
  | .andRm8R8 e r => 0x20 :: encRM Reg8.num r.num e
  | .andRm16R16 e r => 0x21 :: encRM Reg16.num r.num e
  | .andR8Rm8 r e => 0x22 :: encRM Reg8.num r.num e
  | .andR16Rm16 r e => 0x23 :: encRM Reg16.num r.num e
  | .andAlImm8 v => [0x24, v]
  | .andAxImm16 v => 0x25 :: encWord v
  | .subRm8R8 e r => 0x28 :: encRM Reg8.num r.num e
  | .subRm16R16 e r => 0x29 :: encRM Reg16.num r.num e
  | .subR8Rm8 r e => 0x2A :: encRM Reg8.num r.num e
  | .subR16Rm16 r e => 0x2B :: encRM Reg16.num r.num e
  | .subAlImm8 v => [0x2C, v]
  | .subAxImm16 v => 0x2D :: encWord v
  | .xorRm8R8 e r => 0x30 :: encRM Reg8.num r.num e
  | .xorRm16R16 e r => 0x31 :: encRM Reg16.num r.num e
  | .xorR8Rm8 r e => 0x32 :: encRM Reg8.num r.num e
  | .xorR16Rm16 r e => 0x33 :: encRM Reg16.num r.num e
  | .xorAlImm8 v => [0x34, v]
  | .xorAxImm16 v => 0x35 :: encWord v
  | .cmpRm8R8 e r => 0x38 :: encRM Reg8.num r.num e
  | .cmpRm16R16 e r => 0x39 :: encRM Reg16.num r.num e
  | .cmpR8Rm8 r e => 0x3A :: encRM Reg8.num r.num e
  | .cmpR16Rm16 r e => 0x3B :: encRM Reg16.num r.num e
  | .cmpAlImm8 v => [0x3C, v]
  | .cmpAxImm16 v => 0x3D :: encWord v
  | .addRm8Imm8 e v => 0x80 :: (encRM Reg8.num 0 e ++ [v])
  | .orRm8Imm8 e v => 0x80 :: (encRM Reg8.num 1 e ++ [v])
  | .adcRm8Imm8 e v => 0x80 :: (encRM Reg8.num 2 e ++ [v])
  | .sbbRm8Imm8 e v => 0x80 :: (encRM Reg8.num 3 e ++ [v])
  | .andRm8Imm8 e v => 0x80 :: (encRM Reg8.num 4 e ++ [v])
  | .subRm8Imm8 e v => 0x80 :: (encRM Reg8.num 5 e ++ [v])
  | .xorRm8Imm8 e v => 0x80 :: (encRM Reg8.num 6 e ++ [v])
  | .cmpRm8Imm8 e v => 0x80 :: (encRM Reg8.num 7 e ++ [v])
  | .addRm16Imm16 e v => 0x81 :: (encRM Reg16.num 0 e ++ encWord v)
  | .orRm16Imm16 e v => 0x81 :: (encRM Reg16.num 1 e ++ encWord v)
  | .adcRm16Imm16 e v => 0x81 :: (encRM Reg16.num 2 e ++ encWord v)
  | .sbbRm16Imm16 e v => 0x81 :: (encRM Reg16.num 3 e ++ encWord v)
  | .andRm16Imm16 e v => 0x81 :: (encRM Reg16.num 4 e ++ encWord v)
  | .subRm16Imm16 e v => 0x81 :: (encRM Reg16.num 5 e ++ encWord v)
  | .xorRm16Imm16 e v => 0x81 :: (encRM Reg16.num 6 e ++ encWord v)
  | .cmpRm16Imm16 e v => 0x81 :: (encRM Reg16.num 7 e ++ encWord v)
  | .addRm8Imm8Alt e v => 0x82 :: (encRM Reg8.num 0 e ++ [v])
  | .adcRm8Imm8Alt e v => 0x82 :: (encRM Reg8.num 2 e ++ [v])
  | .sbbRm8Imm8Alt e v => 0x82 :: (encRM Reg8.num 3 e ++ [v])
  | .subRm8Imm8Alt e v => 0x82 :: (encRM Reg8.num 5 e ++ [v])
  | .cmpRm8Imm8Alt e v => 0x82 :: (encRM Reg8.num 7 e ++ [v])
  | .addRm16Simm8 e v => 0x83 :: (encRM Reg16.num 0 e ++ [v])
  | .adcRm16Simm8 e v => 0x83 :: (encRM Reg16.num 2 e ++ [v])
  | .sbbRm16Simm8 e v => 0x83 :: (encRM Reg16.num 3 e ++ [v])
  | .subRm16Simm8 e v => 0x83 :: (encRM Reg16.num 5 e ++ [v])
  | .cmpRm16Simm8 e v => 0x83 :: (encRM Reg16.num 7 e ++ [v])
  | .pushEs => [0x06]
  | .pushCs => [0x0E]
  | .pushSs => [0x16]
  | .pushDs => [0x1E]
  | .popEs => [0x07]
  | .popSs => [0x17]
  | .popDs => [0x1F]
  | .pushR16 r => [opReg 0x0A r.num]
  | .pushRm16 e => 0xFF :: encRM Reg16.num 6 e
  | .popR16 r => [opReg 0x0B r.num]
  | .popRm16 e => 0x8F :: encRM Reg16.num 0 e
  | .movRm8R8 e r => 0x88 :: encRM Reg8.num r.num e
  | .movRm16R16 e r => 0x89 :: encRM Reg16.num r.num e
  | .movR8Rm8 r e => 0x8A :: encRM Reg8.num r.num e
  | .movR16Rm16 r e => 0x8B :: encRM Reg16.num r.num e
  | .movRm16Sreg e g => 0x8C :: encRM Reg16.num (0#1 ++ g.num) e
  | .movEsRm16 e => 0x8E :: encRM Reg16.num 0 e
  | .movSsRm16 e => 0x8E :: encRM Reg16.num 2 e
  | .movDsRm16 e => 0x8E :: encRM Reg16.num 3 e
  | .movAlMoffs a => 0xA0 :: encWord a
  | .movAxMoffs a => 0xA1 :: encWord a
  | .movMoffsAl a => 0xA2 :: encWord a
  | .movMoffsAx a => 0xA3 :: encWord a
  | .movR8Imm8 r v => [opReg 0x16 r.num, v]
  | .movR16Imm16 r v => opReg 0x17 r.num :: encWord v
  | .movRm8Imm8 e v => 0xC6 :: (encRM Reg8.num 0 e ++ [v])
  | .movRm16Imm16 e v => 0xC7 :: (encRM Reg16.num 0 e ++ encWord v)
  | .xchgR8Rm8 r e => 0x86 :: encRM Reg8.num r.num e
  | .xchgR16Rm16 r e => 0x87 :: encRM Reg16.num r.num e
  | .xchgAxR16 r => [opReg 0x12 r.num]
  | .xlat => [0xD7]
  | .lea r m => 0x8D :: encMem r.num m
  | .lds r m => 0xC5 :: encMem r.num m
  | .les r m => 0xC4 :: encMem r.num m
  | .lahf => [0x9F]
  | .sahf => [0x9E]
  | .pushf => [0x9C]
  | .popf => [0x9D]
  | .inAlImm8 p => [0xE4, p]
  | .inAxImm8 p => [0xE5, p]
  | .inAlDx => [0xEC]
  | .inAxDx => [0xED]
  | .outImm8Al p => [0xE6, p]
  | .outImm8Ax p => [0xE7, p]
  | .outDxAl => [0xEE]
  | .outDxAx => [0xEF]
  | .incR16 r => [opReg 0x08 r.num]
  | .incRm8 e => 0xFE :: encRM Reg8.num 0 e
  | .incRm16 e => 0xFF :: encRM Reg16.num 0 e
  | .decR16 r => [opReg 0x09 r.num]
  | .decRm8 e => 0xFE :: encRM Reg8.num 1 e
  | .decRm16 e => 0xFF :: encRM Reg16.num 1 e
  | .aaa => [0x37]
  | .daa => [0x27]
  | .aas => [0x3F]
  | .das => [0x2F]
  | .aam => [0xD4, 0x0A]
  | .aad => [0xD5, 0x0A]
  | .cbw => [0x98]
  | .cwd => [0x99]
  | .negRm8 e => 0xF6 :: encRM Reg8.num 3 e
  | .negRm16 e => 0xF7 :: encRM Reg16.num 3 e
  | .mulRm8 e => 0xF6 :: encRM Reg8.num 4 e
  | .mulRm16 e => 0xF7 :: encRM Reg16.num 4 e
  | .imulRm8 e => 0xF6 :: encRM Reg8.num 5 e
  | .imulRm16 e => 0xF7 :: encRM Reg16.num 5 e
  | .divRm8 e => 0xF6 :: encRM Reg8.num 6 e
  | .divRm16 e => 0xF7 :: encRM Reg16.num 6 e
  | .idivRm8 e => 0xF6 :: encRM Reg8.num 7 e
  | .idivRm16 e => 0xF7 :: encRM Reg16.num 7 e
  | .notRm8 e => 0xF6 :: encRM Reg8.num 2 e
  | .notRm16 e => 0xF7 :: encRM Reg16.num 2 e
  | .testRm8R8 e r => 0x84 :: encRM Reg8.num r.num e
  | .testRm16R16 e r => 0x85 :: encRM Reg16.num r.num e
  | .testAlImm8 v => [0xA8, v]
  | .testAxImm16 v => 0xA9 :: encWord v
  | .testRm8Imm8 e v => 0xF6 :: (encRM Reg8.num 0 e ++ [v])
  | .testRm16Imm16 e v => 0xF7 :: (encRM Reg16.num 0 e ++ encWord v)
  | .rolRm8One e => 0xD0 :: encRM Reg8.num 0 e
  | .rolRm16One e => 0xD1 :: encRM Reg16.num 0 e
  | .rolRm8Cl e => 0xD2 :: encRM Reg8.num 0 e
  | .rolRm16Cl e => 0xD3 :: encRM Reg16.num 0 e
  | .rorRm8One e => 0xD0 :: encRM Reg8.num 1 e
  | .rorRm16One e => 0xD1 :: encRM Reg16.num 1 e
  | .rorRm8Cl e => 0xD2 :: encRM Reg8.num 1 e
  | .rorRm16Cl e => 0xD3 :: encRM Reg16.num 1 e
  | .rclRm8One e => 0xD0 :: encRM Reg8.num 2 e
  | .rclRm16One e => 0xD1 :: encRM Reg16.num 2 e
  | .rclRm8Cl e => 0xD2 :: encRM Reg8.num 2 e
  | .rclRm16Cl e => 0xD3 :: encRM Reg16.num 2 e
  | .rcrRm8One e => 0xD0 :: encRM Reg8.num 3 e
  | .rcrRm16One e => 0xD1 :: encRM Reg16.num 3 e
  | .rcrRm8Cl e => 0xD2 :: encRM Reg8.num 3 e
  | .rcrRm16Cl e => 0xD3 :: encRM Reg16.num 3 e
  | .shlRm8One e => 0xD0 :: encRM Reg8.num 4 e
  | .shlRm16One e => 0xD1 :: encRM Reg16.num 4 e
  | .shlRm8Cl e => 0xD2 :: encRM Reg8.num 4 e
  | .shlRm16Cl e => 0xD3 :: encRM Reg16.num 4 e
  | .shrRm8One e => 0xD0 :: encRM Reg8.num 5 e
  | .shrRm16One e => 0xD1 :: encRM Reg16.num 5 e
  | .shrRm8Cl e => 0xD2 :: encRM Reg8.num 5 e
  | .shrRm16Cl e => 0xD3 :: encRM Reg16.num 5 e
  | .sarRm8One e => 0xD0 :: encRM Reg8.num 7 e
  | .sarRm16One e => 0xD1 :: encRM Reg16.num 7 e
  | .sarRm8Cl e => 0xD2 :: encRM Reg8.num 7 e
  | .sarRm16Cl e => 0xD3 :: encRM Reg16.num 7 e
  | .movsb => [0xA4]
  | .movsw => [0xA5]
  | .cmpsb => [0xA6]
  | .cmpsw => [0xA7]
  | .stosb => [0xAA]
  | .stosw => [0xAB]
  | .lodsb => [0xAC]
  | .lodsw => [0xAD]
  | .scasb => [0xAE]
  | .scasw => [0xAF]
  | .repne => [0xF2]
  | .rep => [0xF3]
  | .callRel16 d => 0xE8 :: encWord d
  | .callRm16 e => 0xFF :: encRM Reg16.num 2 e
  | .callFar off seg => 0x9A :: (encWord off ++ encWord seg)
  | .callFarM m => 0xFF :: encMem 3 m
  | .jmpRel16 d => 0xE9 :: encWord d
  | .jmpRel8 d => [0xEB, d]
  | .jmpRm16 e => 0xFF :: encRM Reg16.num 4 e
  | .jmpFar off seg => 0xEA :: (encWord off ++ encWord seg)
  | .jmpFarM m => 0xFF :: encMem 5 m
  | .retNear => [0xC3]
  | .retNearImm16 v => 0xC2 :: encWord v
  | .retFar => [0xCB]
  | .retFarImm16 v => 0xCA :: encWord v
  | .jo d => [0x70, d]
  | .jno d => [0x71, d]
  | .jb d => [0x72, d]
  | .jnb d => [0x73, d]
  | .je d => [0x74, d]
  | .jne d => [0x75, d]
  | .jbe d => [0x76, d]
  | .jnbe d => [0x77, d]
  | .js d => [0x78, d]
  | .jns d => [0x79, d]
  | .jp d => [0x7A, d]
  | .jnp d => [0x7B, d]
  | .jl d => [0x7C, d]
  | .jnl d => [0x7D, d]
  | .jle d => [0x7E, d]
  | .jnle d => [0x7F, d]
  | .loop d => [0xE2, d]
  | .loope d => [0xE1, d]
  | .loopne d => [0xE0, d]
  | .jcxz d => [0xE3, d]
  | .intN n => [0xCD, n]
  | .int3 => [0xCC]
  | .into => [0xCE]
  | .iret => [0xCF]
  | .esc x e => opReg 0x1B (x.extractLsb' 3 3) :: encRM Reg16.num (x.extractLsb' 0 3) e
  | .notUsed op next => if loneUnused op then [op] else [op, next]
  | .clc => [0xF8]
  | .cmc => [0xF5]
  | .stc => [0xF9]
  | .cld => [0xFC]
  | .std => [0xFD]
  | .cli => [0xFA]
  | .sti => [0xFB]
  | .nop => [0x90]
  | .esOverride => [0x26]
  | .csOverride => [0x2E]
  | .ssOverride => [0x36]
  | .dsOverride => [0x3E]
  | .lock => [0xF0]
  | .wait => [0x9B]
  | .hlt => [0xF4]

/-! ## The host's view of the decoder -/

/-- The bytes of an instruction from the number `opcode_table.json` gives its bits: the table counts them in the
16-bit quantity (opcode byte << 8) | next byte (R279), so bits 15:8 are the first byte. A further 16-bit quantity
would count on from bit 16. -/
def tableBytes (nbits w : Nat) : List Byte :=
  if nbits ≤ 8 then [BitVec.ofNat 8 w, 0, 0, 0, 0, 0]
  else if nbits ≤ 16 then [BitVec.ofNat 8 (w / 2 ^ 8), BitVec.ofNat 8 w, 0, 0, 0, 0]
  else if nbits ≤ 32 then
    [BitVec.ofNat 8 (w / 2 ^ 8), BitVec.ofNat 8 w, BitVec.ofNat 8 (w / 2 ^ 24), BitVec.ofNat 8 (w / 2 ^ 16), 0, 0]
  else
    [BitVec.ofNat 8 (w / 2 ^ 8), BitVec.ofNat 8 w, BitVec.ofNat 8 (w / 2 ^ 24), BitVec.ofNat 8 (w / 2 ^ 16),
      BitVec.ofNat 8 (w / 2 ^ 40), BitVec.ofNat 8 (w / 2 ^ 32)]

/-- The instruction the decoder reads from a table row's bits, every later byte being 0. -/
def decodeTableWord (nbits w : Nat) : Option Instr :=
  (decode (tableBytes nbits w)).map fun p => p.1

end Sys2Proof
end

