-- ==== Sys2Proof/Machine/State.lean ====
section
/-! DEFINITION. The state of the machine as plain data, the reasons a step can stop, and the state after reset
(`10_state.md`; the environment's inputs of R10, R48, R551 stand in the state as data). -/

namespace Sys2Proof.Machine

/-! ## The system the CPU stands in: constants of a run -/

/-- Minimum or maximum mode, the level strapped on MN/#MX (R40, R91). -/
inductive Mode where
  | minimum
  | maximum
  deriving DecidableEq, Repr

/-- What answers at a memory address (`MemMap`, R10, `92_eei_decisions.md` D7). -/
inductive MemKind where
  | ram
  | rom
  | absent
  deriving DecidableEq, Repr

/-- A stretch of the memory map: `size` bytes from `base`, all of one kind. -/
structure Region where
  base : Nat
  size : Nat
  kind : MemKind
  deriving DecidableEq, Repr

/-- What the system builder or the chip version fixes for a whole run (R10): no step changes it. -/
structure Params where
  /-- Minimum or maximum mode (R40). -/
  mode : Mode
  /-- The memory map: the first region that covers an address gives its kind; an uncovered address is RAM (R10). -/
  memMap : List Region
  /-- `IntSeqBusOrder`: false, the three pushes come first, as R530 lists them; true, the vector is read first (U16). -/
  vectorFirst : Bool
  /-- Whether another master can come between the two byte cycles of an unaligned word (U22, R135, R197). -/
  splitWords : Bool
  /-- `SegStatusOrder`: false, the column order the source prints (S3 S4); true, Intel's (S4 S3) (R93, D4). -/
  intelSegStatus : Bool
  deriving DecidableEq, Repr

/-! ## Registers -/

/-- The eight general registers (R30). -/
structure Regs where
  ax : Word
  cx : Word
  dx : Word
  bx : Word
  sp : Word
  bp : Word
  si : Word
  di : Word
  deriving DecidableEq, Repr

/-- The four segment registers (R21, R24). -/
structure Segs where
  es : Word
  cs : Word
  ss : Word
  ds : Word
  deriving DecidableEq, Repr

/-- The nine flags of the status register (R33). Its other seven bits hold nothing (R34). -/
structure Flags where
  /-- Carry, bit 0. -/
  cf : Bool
  /-- Parity, bit 2. -/
  pf : Bool
  /-- Auxiliary carry, bit 4. -/
  af : Bool
  /-- Zero, bit 6. -/
  zf : Bool
  /-- Sign, bit 7. -/
  sf : Bool
  /-- Trap, bit 8. -/
  tf : Bool
  /-- Interrupt enable, bit 9: the source's "bit IF". -/
  ifl : Bool
  /-- Direction, bit 10. -/
  df : Bool
  /-- Overflow, bit 11. -/
  ofl : Bool
  deriving DecidableEq, Repr

/-! ## Prefixes, pending events, the bus -/

/-- What the prefix bytes seen so far arm for the instruction that follows them (R271, R508). -/
structure Armed where
  /-- A prefix byte has been executed and its instruction has not (R46 (d)). -/
  pending : Bool
  /-- The last segment override. -/
  seg : Option SegReg
  /-- The last repeat prefix. -/
  rep : Option Rep
  /-- Offset of the first byte of the instruction, its first prefix included. -/
  start : Word
  /-- Offset of the instruction's opcode byte. -/
  opcode : Word
  deriving DecidableEq, Repr

/-- The one-instruction interrupt inhibition (R46 (c), R528 (b), (c)). -/
inductive Shadow where
  | none
  /-- After `STI`: INTR is not recognised. -/
  | intr
  /-- After `MOV` or `POP` to a segment register: nothing is recognised. -/
  | all
  deriving DecidableEq, Repr

/-- Whether a type-1 interrupt is owed (R527, R529). -/
inductive Trap where
  | none
  /-- TF was 1 when the instruction started that runs or has just completed. -/
  | stepped
  /-- An interrupt sequence ran while TF was 1. -/
  | nested
  deriving DecidableEq, Repr

/-- Who owns the buses (R41). -/
inductive Owner where
  | cpu
  /-- The minimum-mode HOLD requester. -/
  | hold
  | ext0
  | ext1
  deriving DecidableEq, Repr

/-- The state of one #RQ/#GT channel (R192). -/
inductive Channel where
  | idle
  | requested
  | granted
  deriving DecidableEq, Repr

/-- The levels on the CPU's inputs (R48, R551); `true` is level 1. -/
structure Pins where
  /-- HOLD (R84). -/
  hold : Bool
  /-- NMI (R72). -/
  nmi : Bool
  /-- INTR (R71). -/
  intr : Bool
  /-- The type number the interrupting device answers in the second acknowledge cycle (R532). -/
  intType : Byte
  /-- #TEST (R75): the active level is `false`. -/
  test : Bool
  deriving DecidableEq, Repr

/-- The eight kinds of bus cycle (R92). -/
inductive BusKind where
  | inta
  | ior
  | iow
  | halt
  | fetch
  | memr
  | memw
  | passive
  deriving DecidableEq, Repr

/-- The two halves of the data bus in a cycle: nothing, one byte, or a word (R99, R121). -/
structure Lanes where
  /-- The byte on D0 to D7, if that half takes part. -/
  low : Option Byte
  /-- The byte on D8 to D15, if that half takes part. -/
  high : Option Byte
  deriving DecidableEq, Repr

/-- One bus cycle (R170). The data stand on the half of the bus they travel on (R99, R121). -/
structure BusCycle where
  kind : BusKind
  /-- The address put out in T1; none in an acknowledge or halt cycle (R176, R177). -/
  addr : Option Addr
  /-- The level of #BHE in T1, `false` when the high byte takes part; none where no address is put out, and the spec
  gives no level (R176, R302, R532). -/
  bhe : Option Bool
  data : Lanes
  /-- The segment register used, none where the cycle uses none (R93). -/
  seg : Option SegReg
  /-- Status bit S5: IF (R94). -/
  s5 : Bool
  /-- #LOCK is active during the cycle (R76). -/
  lock : Bool
  /-- The number of wait states (R170, R180). -/
  waits : Nat
  deriving DecidableEq, Repr

/-- What QS1 QS0 report (R45), "no operation" left out. -/
inductive QueueStatus where
  | first
  | emptied
  | subsequent
  deriving DecidableEq, Repr

/-- What the last step put on the CPU's outputs: the model's own record of R170, of which every output pin is a
function (R48). -/
structure Log where
  /-- The bus cycles of the CPU, in bus order, the instruction fetches in their places among the others (R151, R657). -/
  cycles : List BusCycle
  /-- The grant pulses emitted, in order: on #RQ/#GT0 (`false`) or #RQ/#GT1 (`true`) (R192). -/
  grants : List Bool
  /-- What happened to the instruction queue, in order. -/
  queue : List QueueStatus
  deriving DecidableEq, Repr

/-- Nothing on the outputs. -/
def Log.empty : Log := { cycles := [], grants := [], queue := [] }

/-! ## The outside world as data -/

/-- What a device does when one of its ports is read: in state `inState` it answers a byte and goes to `next`. -/
structure DeviceRead where
  inState : Nat
  port : Nat
  answer : Byte
  next : Nat
  deriving DecidableEq, Repr

/-- What a device does when a byte is written to one of its ports: in state `inState` it goes to `next`. -/
structure DeviceWrite where
  inState : Nat
  port : Nat
  byte : Byte
  next : Nat
  deriving DecidableEq, Repr

/-- A device behind I/O ports (`IoMap`, R10): a machine of its own, that reacts to each read and each write by a table,
the first row that fits counting. -/
structure Device where
  ports : List Nat
  /-- Its present state. -/
  now : Nat
  /-- The state its reset input puts it into; none where it has no such input (R628). -/
  onReset : Option Nat
  reads : List DeviceRead
  writes : List DeviceWrite
  /-- The writes it has taken, port and byte, the oldest first. -/
  received : List (Nat × Byte)
  deriving DecidableEq, Repr

/-- One bus cycle of another master (R199), of a byte or of a word; a word cycle is at an even address, whose bits above
A0 are given (R17, R129, R170). -/
inductive MasterOp where
  | memRead (a : Addr)
  | memWrite (a : Addr) (b : Byte)
  | ioRead (p : Word)
  | ioWrite (p : Word) (b : Byte)
  | memReadWord (row : BitVec 19)
  | memWriteWord (row : BitVec 19) (v : Word)
  | ioReadWord (row : BitVec 15)
  | ioWriteWord (row : BitVec 15) (v : Word)
  deriving DecidableEq, Repr

/-- One thing that happens at the CPU's pins or in its bus interface (R551): the environment's doing, or a free choice
of the bus interface (R199, R657). -/
inductive Event where
  /-- NMI takes a level (R524). -/
  | nmi (level : Bool)
  /-- INTR takes a level, and the device behind it a type number (R523, R532). -/
  | intr (level : Bool) (type : Byte)
  /-- #TEST takes a level (R75). -/
  | test (level : Bool)
  /-- HOLD takes a level (R190). -/
  | hold (level : Bool)
  /-- A request pulse on #RQ/#GT0 (`false`) or #RQ/#GT1 (`true`) (R192). -/
  | request (ch : Bool)
  /-- The CPU's bus interface answers a request, where R196 to R198 allow it (log entry 38). -/
  | grant
  /-- A release pulse on a channel (R192). -/
  | release (ch : Bool)
  /-- The owner of a ceded bus runs a cycle (R199). -/
  | master (op : MasterOp)
  /-- The CPU's bus interface runs an instruction-fetch cycle ahead of execution, where R45 allows it (R657, U18). -/
  | fetch
  /-- `ReadyOracle` gives the CPU's next bus cycle `n` wait states (R10, R182). -/
  | wait (n : Nat)
  /-- READY stays 0 from here on: the CPU's next bus cycle never ends (R182, U26). -/
  | neverReady
  /-- RESET_DRV: a pulse on the reset inputs of the devices, which are not the CPU's (R601, R620, R628). -/
  | resetDrv
  /-- RESET. Of a write cycle in progress the low and the high half land or do not (R620, U23). -/
  | reset (low high : Bool)
  deriving DecidableEq, Repr

/-- Who moves next. -/
inductive Move where
  /-- The CPU takes a turn; what happens at each point between two bus cycles of the turn is given, the first point
  lying before its first cycle (R152, R657). -/
  | cpu (gaps : List (List Event))
  /-- Something happens between two turns. -/
  | env (e : Event)
  deriving DecidableEq, Repr

/-! ## An instruction in flight -/

/-- What the CPU services on its own account at a boundary; the interrupts an instruction raises are part of it
(R529 (1)). -/
inductive Due where
  | nmi
  | intr
  | trap
  deriving DecidableEq, Repr

/-- What the CPU is busy with between two boundaries. -/
inductive Task where
  | instr (i : Instr)
  | service (d : Due)
  deriving DecidableEq, Repr

/-- A point between two bus cycles of the CPU. -/
inductive Point where
  /-- Between two accesses. -/
  | between
  /-- Between the two cycles of an unaligned word (R197 (a), R657). -/
  | insideWord
  /-- Between the two acknowledge cycles (R176, R197 (b), R657). -/
  | insideAck
  deriving DecidableEq, Repr

/-- The general and segment registers, IP and the flags. -/
structure Registers where
  regs : Regs
  segs : Segs
  ip : Word
  flags : Flags
  deriving DecidableEq, Repr

/-- A task whose next bus cycle waits for the bus: the registers of the CPU are those it has reached, `origin` those it
began with; its bus cycles so far have happened, and `past` holds the data of those cycles, in order (R194, log
entry 37). -/
structure Midway where
  task : Task
  /-- The point before the cycle it waits with. -/
  point : Point
  origin : Registers
  past : List Lanes
  deriving DecidableEq, Repr

/-- Where a task can go no further in a turn. -/
structure Stall where
  point : Point
  /-- The registers it has reached. -/
  held : Registers
  deriving DecidableEq, Repr

/-- What stands beside the instruction while a turn runs. -/
structure Flight where
  /-- What happens at the coming points between bus cycles. -/
  gaps : List (List Event)
  /-- The data of cycles that are over: the task goes through these cycles again without running them. -/
  again : List Lanes
  /-- RESET has come, with the halves of a write cycle in progress that land. -/
  cut : Option (Bool × Bool)
  /-- Where the task can go no further in this turn, if it has come there: nothing it does from there on counts. -/
  stalled : Option Stall
  deriving DecidableEq, Repr

/-- Nothing beside the instruction. -/
def Flight.idle : Flight := { gaps := [], again := [], cut := none, stalled := none }

/-! ## The state -/

/-- The machine. -/
structure State where
  regs : Regs
  segs : Segs
  /-- The instruction pointer (R32). While an instruction runs it is that instruction's `IP_next`. -/
  ip : Word
  flags : Flags
  /-- The instruction queue, oldest byte first (R45). -/
  queue : List Byte
  /-- Halt state (R43). -/
  halted : Bool
  /-- Lock state (R44). -/
  locked : Bool
  armed : Armed
  /-- A repeated string instruction between two iterations, or a `WAIT` that is waiting (R528 (d)). -/
  inProgress : Option Instr
  /-- The NMI latch (R46 (a)). -/
  nmiLatch : Bool
  shadow : Shadow
  trap : Trap
  /-- No instruction has started since RESET: the fetch at FFFF:0000 comes first, and nothing is recognised before the
  end of an instruction (R528, R620, `92_eei_decisions.md` D5). -/
  unstarted : Bool
  owner : Owner
  /-- Channel #RQ/#GT0. -/
  ch0 : Channel
  /-- Channel #RQ/#GT1. -/
  ch1 : Channel
  /-- READY stays 0: the CPU's next bus cycle, or the one in `stuck`, never ends (R182, U26). -/
  hung : Bool
  /-- The bus cycle in progress that never ends (R182, U26). -/
  stuck : Option BusCycle
  /-- The wait states of the CPU's next bus cycle (`ReadyOracle`, R10): the model's own. -/
  waits : Nat
  pins : Pins
  /-- Memory: the bytes that are not zero, by rising physical address (R47, R120). -/
  mem : List Host.Cell
  devices : List Device
  params : Params
  /-- How many values that instructions leave undefined have been drawn: the model's own. -/
  draws : Nat
  /-- How many bytes have been read where nothing answers: the model's own. -/
  floats : Nat
  /-- What is still to come, soonest first; when it is empty the CPU moves and nothing else does: the model's own. -/
  script : List Move
  /-- A task that waits for the bus. -/
  midway : Option Midway
  /-- What stands beside the instruction being run; idle between two steps: the model's own. -/
  flight : Flight
  /-- What the last step put on the outputs: the model's own. -/
  log : Log
  deriving DecidableEq, Repr

/-- Why the machine stops. -/
inductive Fault where
  /-- Raised by a turn of the CPU whose next bus cycle never gets READY, when the environment will do nothing more: the
  CPU is stuck in TW (R182, R650, U26). Safe: the hardware makes no progress there either. -/
  | stuckNotReady
  /-- Raised by a turn of the CPU that needs the bus while it is ceded, when the environment will do nothing more: the
  master never releases it (R199, R651). Safe: the hardware makes no progress there either. -/
  | stuckBusCeded
  deriving DecidableEq, Repr

/-- Why the model gives no meaning. -/
inductive Refusal where
  /-- Raised by no arm: every instruction has its meaning. Safe. -/
  | notModelled (mnemonic : String)
  /-- Raised by `notUsed`: an encoding Intel does not document, which "the model must not give a value" (R275, U1).
  Safe: the chip does something there, and no claim is made about it. -/
  | undocumentedEncoding (op next : Byte)
  /-- Raised when a repeat or segment prefix stands before an instruction for which it is not documented
  (R275 (f), U28). Safe, as above. -/
  | undocumentedPrefix
  /-- Raised by a word `IN` or `OUT` at port FFFFH, whose second port Intel does not define (R322, U20). Safe. -/
  | portWrap
  /-- Raised by the fetch when six bytes form no instruction, which never happens
  (`Obligations.SixBytesDecode`). Safe. -/
  | undecodable
  deriving DecidableEq, Repr

/-- The outcome of an instruction or of a step. -/
abbrev Result := Host.Outcome State Fault Refusal

/-- The machine right after reset (R50, R51). The general registers, memory, the input levels and the parameters have
no value in the spec: log entries 3, 4, 15, 16, 43 name the ones chosen here. -/
def State.reset : State where
  regs := { ax := 0, cx := 0, dx := 0, bx := 0, sp := 0, bp := 0, si := 0, di := 0 }
  segs := { es := 0, cs := 0xFFFF, ss := 0, ds := 0 }
  ip := 0
  flags := { cf := false, pf := false, af := false, zf := false, sf := false, tf := false, ifl := false,
             df := false, ofl := false }
  queue := []
  halted := false
  locked := false
  armed := { pending := false, seg := none, rep := none, start := 0, opcode := 0 }
  inProgress := none
  nmiLatch := false
  shadow := .none
  trap := .none
  unstarted := true
  owner := .cpu
  ch0 := .idle
  ch1 := .idle
  hung := false
  stuck := none
  waits := 0
  pins := { hold := false, nmi := false, intr := false, intType := 0, test := false }
  mem := []
  devices := []
  params := { mode := .maximum, memMap := [], vectorFirst := false, splitWords := false, intelSegStatus := false }
  draws := 0
  floats := 0
  script := []
  midway := none
  flight := .idle
  log := .empty

end Sys2Proof.Machine
end

