-- ==== Sys2Proof/Machine/Memory.lean ====
section
/-! DEFINITION. The named operations over registers, free values, and single bytes of memory and of the I/O space
(`10_state.md`, `20_memory.md`). Every read is followed by the state it leaves: a value is the first component. -/

namespace Sys2Proof.Machine

/-! ## Registers (R30, R31, R24) -/

/-- The contents of a 16-bit register (R30). -/
def Regs.get16 (g : Regs) : Reg16 → Word
  | .ax => g.ax | .cx => g.cx | .dx => g.dx | .bx => g.bx
  | .sp => g.sp | .bp => g.bp | .si => g.si | .di => g.di

/-- A 16-bit register written (R30). -/
def Regs.put16 (g : Regs) (r : Reg16) (v : Word) : Regs :=
  match r with
  | .ax => { g with ax := v } | .cx => { g with cx := v } | .dx => { g with dx := v } | .bx => { g with bx := v }
  | .sp => { g with sp := v } | .bp => { g with bp := v } | .si => { g with si := v } | .di => { g with di := v }

/-- The 16-bit register an 8-bit name is a half of (R31). -/
def wholeOf : Reg8 → Reg16
  | .al | .ah => .ax
  | .cl | .ch => .cx
  | .dl | .dh => .dx
  | .bl | .bh => .bx

/-- Whether an 8-bit name is the high half (R31). -/
def isHigh : Reg8 → Bool
  | .al | .cl | .dl | .bl => false
  | .ah | .ch | .dh | .bh => true

/-- The contents of an 8-bit register (R31). -/
def Regs.get8 (g : Regs) (r : Reg8) : Byte :=
  if isHigh r then highByte (g.get16 (wholeOf r)) else lowByte (g.get16 (wholeOf r))

/-- An 8-bit register written; the other half keeps its value (R31). -/
def Regs.put8 (g : Regs) (r : Reg8) (v : Byte) : Regs :=
  let w := g.get16 (wholeOf r)
  g.put16 (wholeOf r) (if isHigh r then wordOf (lowByte w) v else wordOf v (highByte w))

/-- The contents of a segment register (R24). -/
def Segs.get (g : Segs) : SegReg → Word
  | .es => g.es | .cs => g.cs | .ss => g.ss | .ds => g.ds

/-- A segment register written (R24). -/
def Segs.put (g : Segs) (r : SegReg) (v : Word) : Segs :=
  match r with
  | .es => { g with es := v } | .cs => { g with cs := v } | .ss => { g with ss := v } | .ds => { g with ds := v }

/-- The contents of a 16-bit register. -/
def State.reg16 (s : State) (r : Reg16) : Word := s.regs.get16 r

/-- The contents of an 8-bit register. -/
def State.reg8 (s : State) (r : Reg8) : Byte := s.regs.get8 r

/-- The contents of a segment register. -/
def State.segReg (s : State) (g : SegReg) : Word := s.segs.get g

/-- A 16-bit register written. -/
def State.setReg16 (s : State) (r : Reg16) (v : Word) : State := { s with regs := s.regs.put16 r v }

/-- An 8-bit register written. -/
def State.setReg8 (s : State) (r : Reg8) (v : Byte) : State := { s with regs := s.regs.put8 r v }

/-- A segment register written. -/
def State.setSegReg (s : State) (g : SegReg) (v : Word) : State := { s with segs := s.segs.put g v }

/-- The registers together. -/
def State.registers (s : State) : Registers := { regs := s.regs, segs := s.segs, ip := s.ip, flags := s.flags }

/-- The registers together written. -/
def State.withRegisters (s : State) (r : Registers) : State :=
  { s with regs := r.regs, segs := r.segs, ip := r.ip, flags := r.flags }

/-- The flags written. -/
def State.setFlags (s : State) (f : Flags) : State := { s with flags := f }

/-! ## Free values (`draw`, R15) -/

/-- A free bit. -/
def State.drawBit (s : State) : Bool × State := (Config.freeBit s.draws, { s with draws := s.draws + 1 })

/-- A free byte. -/
def State.drawByte (s : State) : Byte × State := (Config.freeByte s.draws, { s with draws := s.draws + 1 })

/-- A free word. -/
def State.drawWord (s : State) : Word × State := (Config.freeWord s.draws, { s with draws := s.draws + 1 })

/-- The byte a read takes where nothing answers (R145, U3, log entry 16). -/
def State.floatByte (s : State) : Byte × State := (Config.openByte s.floats, { s with floats := s.floats + 1 })

/-! ## Memory as a list of cells -/

/-- The byte at an address; an unlisted address reads as zero (log entry 4). -/
def Memory.read : List Host.Cell → Nat → Byte
  | [], _ => 0
  | c :: m, a => if c.1 = a then c.2 else Memory.read m a

/-- A byte put at its place among rising addresses, none of which is its own. -/
def Memory.insert (a : Nat) (v : Byte) : List Host.Cell → List Host.Cell
  | [] => [(a, v)]
  | c :: m => if a < c.1 then (a, v) :: c :: m else c :: Memory.insert a v m

/-- The memory without the cell at an address. -/
def Memory.erase (a : Nat) : List Host.Cell → List Host.Cell
  | [] => []
  | c :: m => if c.1 = a then Memory.erase a m else c :: Memory.erase a m

/-- A byte written: its old cell goes, and a new one comes unless the byte is what an unlisted address reads as. -/
def Memory.write (m : List Host.Cell) (a : Nat) (v : Byte) : List Host.Cell :=
  if v = 0 then Memory.erase a m else Memory.insert a v (Memory.erase a m)

/-- Canonical from an address on: addresses rise strictly, lie below 2^20, and no listed byte is zero. -/
def Memory.wfFrom (lo : Nat) : List Host.Cell → Bool
  | [] => true
  | c :: m => decide (lo ≤ c.1) && decide (c.1 < 2 ^ 20) && decide (c.2 ≠ 0) && Memory.wfFrom (c.1 + 1) m

/-- The one canonical form of a memory. -/
def Memory.wf (m : List Host.Cell) : Bool := Memory.wfFrom 0 m

/-! ## One byte of the memory space -/

/-- The physical address of an offset in a segment: `(seg << 4) + off`, modulo 2^20 (R140, R143). -/
def phys (seg off : Word) : Addr := (seg.setWidth 20 <<< 4) + off.setWidth 20

/-- The physical address of an offset in the segment a register selects (R140). -/
def State.addr (s : State) (g : SegReg) (off : Word) : Addr := phys (s.segReg g) off

/-- What answers at an address (`MemMap`, R10): the first region that covers it, RAM where none does (log entry 16). -/
def Params.kindAt (p : Params) (a : Addr) : MemKind :=
  match p.memMap.find? fun r => decide (r.base ≤ a.toNat) && decide (a.toNat < r.base + r.size) with
  | some r => r.kind
  | none => .ram

/-- What answers at an address, in a state. -/
def State.kindAt (s : State) (a : Addr) : MemKind := s.params.kindAt a

/-- The byte memory holds at an address. -/
def State.byteAt (s : State) (a : Addr) : Byte := Memory.read s.mem a.toNat

/-- The byte a read cycle takes from an address: a free byte where nothing is installed (R145, U3). -/
def State.readByte (s : State) (a : Addr) : Byte × State :=
  if s.kindAt a = .absent then s.floatByte else (s.byteAt a, s)

/-- The effect of a write cycle on one address: only RAM changes (R145, R534). -/
def State.writeByte (s : State) (a : Addr) (v : Byte) : State :=
  if s.kindAt a = .ram then { s with mem := Memory.write s.mem a.toNat v } else s

/-! ## One port of the I/O space (R124, log entry 17) -/

/-- What a device answers to a read of a port, and the device after it; nothing where no row of its table fits. -/
def Device.read (d : Device) (p : Nat) : Option (Byte × Device) :=
  (d.reads.find? fun r => decide (r.inState = d.now) && decide (r.port = p)).map fun r =>
    (r.answer, { d with now := r.next })

/-- A device after a write to a port: it stays in its state where no row of its table fits. -/
def Device.write (d : Device) (p : Nat) (v : Byte) : Device :=
  { d with
    received := d.received ++ [(p, v)]
    now := match d.writes.find? fun w => decide (w.inState = d.now) && decide (w.port = p) && decide (w.byte = v) with
      | some w => w.next
      | none => d.now }

/-- A device after a pulse on its reset input, which leaves the record of the writes it has taken (R628). -/
def Device.reset (d : Device) : Device := { d with now := d.onReset.getD d.now }

/-- What the first device at a port answers, and the devices after it; nothing where there is none, or none of its rows
fits. -/
def Device.take (p : Nat) : List Device → Option (Byte × List Device)
  | [] => none
  | d :: ds =>
    if p ∈ d.ports then (d.read p).map fun r => (r.1, r.2 :: ds)
    else (Device.take p ds).map fun r => (r.1, d :: r.2)

/-- The devices after the first one at a port was sent a byte; a port without a device drops it. -/
def Device.give (p : Nat) (v : Byte) : List Device → List Device
  | [] => []
  | d :: ds => if p ∈ d.ports then d.write p v :: ds else d :: Device.give p v ds

/-- The byte an I/O read takes from a port: a free byte where no device answers (R322, U3). -/
def State.readPort (s : State) (p : Nat) : Byte × State :=
  match Device.take p s.devices with
  | some r => (r.1, { s with devices := r.2 })
  | none => s.floatByte

/-- The effect of an I/O write on a port (R323). -/
def State.writePort (s : State) (p : Nat) (v : Byte) : State :=
  { s with devices := Device.give p v s.devices }

/-! ## The two address spaces (R120, R124) -/

/-- Memory or I/O: they have the same bus cycles (R124, R133). -/
inductive Space where
  | memory
  | io
  deriving DecidableEq, Repr

/-- The kind of a read cycle (R92). -/
def Space.readKind : Space → BusKind
  | .memory => .memr
  | .io => .ior

/-- The kind of a write cycle (R92). -/
def Space.writeKind : Space → BusKind
  | .memory => .memw
  | .io => .iow

/-- The byte a read cycle takes from an address of a space; a port stands on A15 to A0 (R124). -/
def State.input (s : State) (sp : Space) (a : Addr) : Byte × State :=
  match sp with
  | .memory => s.readByte a
  | .io => s.readPort a.toNat

/-- The effect of a write cycle on an address of a space. -/
def State.output (s : State) (sp : Space) (a : Addr) (v : Byte) : State :=
  match sp with
  | .memory => s.writeByte a v
  | .io => s.writePort a.toNat v

/-- The word one read cycle takes from the addresses of its low and its high byte; the bytes are taken one after the
other, the low one first, which a device behind both ports can see (log entry 17). -/
def State.inputWord (s : State) (sp : Space) (lo hi : Addr) : Word × State :=
  let b := s.input sp lo
  let c := b.2.input sp hi
  (wordOf b.1 c.1, c.2)

/-- The effect of one write cycle of a word, byte after byte as `inputWord` (log entry 17). -/
def State.outputWord (s : State) (sp : Space) (lo hi : Addr) (v : Word) : State :=
  (s.output sp lo (lowByte v)).output sp hi (highByte v)

end Sys2Proof.Machine
end

