-- ==== Sys2Proof/Machine/Bus.lean ====
section
/-! DEFINITION. The bus: who owns it and how it is ceded, the input levels, one bus cycle of the CPU with what happens
before it, and the fetch cycles of the bus interface (`22_bus_cycle_and_arbitration.md`, R45, R551, R657; log
entries 13, 20, 37, 38). -/

namespace Sys2Proof.Machine

/-! ## Inputs -/

/-- NMI takes a level; a rising edge sets the latch (R524). -/
def State.setNmi (s : State) (level : Bool) : State :=
  { s with nmiLatch := s.nmiLatch || (level && !s.pins.nmi), pins := { s.pins with nmi := level } }

/-- HOLD takes a level in minimum mode; when it falls the buses return to the CPU (R190). -/
def State.setHold (s : State) (level : Bool) : State :=
  if s.params.mode = .minimum then
    { s with pins := { s.pins with hold := level },
             owner := if level then s.owner else if s.owner = .hold then .cpu else s.owner }
  else s

/-! ## Cession of the bus (R190 to R199) -/

/-- #LOCK is driven active: the lock state, where the pin exists (R44, R76, R300). -/
def State.lockActive (s : State) : Bool := s.locked && decide (s.params.mode = .maximum)

/-- The CPU can cede the bus: it has it, none of its cycles hangs, and #LOCK is not active (R182, R196, R198; in minimum
mode `LOCK` promises nothing, `92_eei_decisions.md` D31). -/
def State.canCede (s : State) : Bool := decide (s.owner = .cpu) && s.stuck.isNone && !s.lockActive

/-- A request pulse on a channel of maximum mode; it is remembered until it is granted (R192, R198). -/
def State.request (s : State) (ch : Bool) : State :=
  if s.params.mode = .maximum then
    if ch then { s with ch1 := if s.ch1 = .idle then .requested else s.ch1 }
    else { s with ch0 := if s.ch0 = .idle then .requested else s.ch0 }
  else s

/-- A grant pulse on a channel, entered in the step's log (R192). -/
def State.pulse (s : State) (ch : Bool) : State := { s with log := { s.log with grants := s.log.grants ++ [ch] } }

/-- The CPU cedes the bus to a requester, if it can; #RQ/#GT0 comes first (R190, R192, R193, R196, R198). When a request
is granted is not bounded (R199): it is when this event comes (log entry 38). -/
def State.grant (s : State) : State :=
  if s.canCede then
    match s.params.mode with
    | .minimum => if s.pins.hold then { s with owner := .hold } else s
    | .maximum =>
      if s.ch0 = .requested then { s with ch0 := .granted, owner := .ext0 }.pulse false
      else if s.ch1 = .requested then { s with ch1 := .granted, owner := .ext1 }.pulse true
      else s
  else s

/-- A release pulse on a channel that has the bus (R192). -/
def State.release (s : State) (ch : Bool) : State :=
  if ch then (if s.ch1 = .granted then { s with ch1 := .idle, owner := .cpu } else s)
  else if s.ch0 = .granted then { s with ch0 := .idle, owner := .cpu }
  else s

/-- One bus cycle of another master (R152, R199). -/
def MasterOp.run (s : State) : MasterOp → State
  | .memRead a => (s.readByte a).2
  | .memWrite a b => s.writeByte a b
  | .ioRead p => (s.readPort p.toNat).2
  | .ioWrite p b => s.writePort p.toNat b
  | .memReadWord r => (s.inputWord .memory (r ++ 0#1) (r ++ 1#1)).2
  | .memWriteWord r v => s.outputWord .memory (r ++ 0#1) (r ++ 1#1) v
  | .ioReadWord r => (s.inputWord .io (0#4 ++ r ++ 0#1) (0#4 ++ r ++ 1#1)).2
  | .ioWriteWord r v => s.outputWord .io (0#4 ++ r ++ 0#1) (0#4 ++ r ++ 1#1) v

/-- A bus cycle of the master that has the bus (R199). -/
def State.masterCycle (s : State) (op : MasterOp) : State := if s.owner = .cpu then s else MasterOp.run s op

/-! ## A bus cycle of the CPU (R170) -/

/-- No data. -/
def Lanes.none : Lanes := { low := .none, high := .none }

/-- A byte on the half that belongs to its address (R121, R128). -/
def Lanes.byte (a : Addr) (v : Byte) : Lanes :=
  if a.getLsbD 0 then { low := .none, high := some v } else { low := some v, high := .none }

/-- A word on both halves (R127, R129). -/
def Lanes.word (v : Word) : Lanes := { low := some (lowByte v), high := some (highByte v) }

/-- The byte on the half that belongs to an address (R121, R128). -/
def Lanes.byteOf (l : Lanes) (a : Addr) : Byte := (if a.getLsbD 0 then l.high else l.low).getD 0

/-- The word on both halves (R127, R129). -/
def Lanes.toWord (l : Lanes) : Word := wordOf (l.low.getD 0) (l.high.getD 0)

/-- The bytes that are there, the low one first. -/
def Lanes.bytes (l : Lanes) : List Byte := l.low.toList ++ l.high.toList

/-- A bus cycle of the CPU as it appears on the pins (R170): #BHE is active when the high half takes part, and has no
level where no address is put out; #LOCK is active in a locked instruction, and in acknowledge cycles of maximum mode
(R76, R176). -/
def State.busCycle (s : State) (kind : BusKind) (addr : Option Addr) (seg : Option SegReg) (d : Lanes) : BusCycle :=
  { kind, addr, bhe := addr.map fun _ => d.high.isNone, data := d, seg, s5 := s.flags.ifl,
    lock := if kind = .inta then decide (s.params.mode = .maximum) else s.lockActive, waits := s.waits }

/-- A cycle that has ended, entered in the step's log; its wait states are used up. -/
def State.record (s : State) (c : BusCycle) : State :=
  { s with waits := 0, log := { s.log with cycles := s.log.cycles ++ [c] } }

/-- The CPU can run no bus cycle to its end: the bus is ceded, or READY stays 0 (R182, R194). -/
def State.barred (s : State) : Bool := s.hung || decide (s.owner ≠ .cpu)

/-- A write moves data from the CPU (R172). -/
def BusKind.isWrite : BusKind → Bool
  | .iow | .memw => true
  | .inta | .ior | .halt | .fetch | .memr | .passive => false

/-- A cycle that never ends: of its data only those the CPU puts out are on the bus (R175). -/
def BusCycle.unended (c : BusCycle) : BusCycle := if c.kind.isWrite then c else { c with data := .none }

/-- The CPU begins a cycle that never ends, if it has the bus and none hangs already (R182, U26). -/
def State.hang (s : State) (c : BusCycle) : State :=
  if s.owner = .cpu ∧ s.stuck = none then { s with stuck := some c.unended } else s

/-- A bus cycle of the CPU: `move` moves its data. Where the bus is ceded there is none, and where READY stays 0 it is
begun and does not end (R182, R194). -/
def State.runCycle (s : State) (kind : BusKind) (addr : Option Addr) (seg : Option SegReg)
    (move : State → Lanes × State) : Lanes × State :=
  let r := move s
  let c := s.busCycle kind addr seg r.1
  if s.barred then (.none, s.hang c) else (r.1, r.2.record c)

/-! ## Fetch cycles of the bus interface (R45, R132) -/

/-- The data of a fetch cycle: a word at an even address, one byte at an odd one (R132). -/
def State.fetchMove (a : Addr) (s : State) : Lanes × State :=
  if a.getLsbD 0 then
    let b := s.readByte a
    (Lanes.byte a b.1, b.2)
  else
    let w := s.inputWord .memory a (a + 1)
    (Lanes.word w.1, w.2)

/-- One `FETCH` cycle at the offset after the last byte queued, if two bytes of the queue are free and the CPU is not
halted (R45, R132, R302). -/
def State.biuFetch (s : State) : State :=
  if s.halted || decide (4 < s.queue.length) then s
  else
    let a := s.addr .cs (s.ip + BitVec.ofNat 16 s.queue.length)
    let r := s.runCycle .fetch (some a) (some .cs) (State.fetchMove a)
    { r.2 with queue := r.2.queue ++ r.1.bytes }

/-! ## What happens between two bus cycles -/

/-- A request can be granted at a point: inside an unaligned word only where it is divisible (R135, R197, U22, log
entry 13). -/
def Point.cedes (p : Params) : Point → Bool
  | .between => true
  | .insideWord => p.splitWords
  | .insideAck => false

/-- Whether something can happen at a point: no fetch and, where the word is not divisible, no grant between the two cycles
of one access (R135, R176, R197, R657). -/
def Point.admits (p : Params) (pt : Point) (e : Event) : Bool :=
  (decide (e ≠ .grant) || pt.cedes p) && (decide (e ≠ .fetch) || decide (pt = .between))

/-- RESET has come: the instruction in progress goes no further (R620). -/
def State.setCut (s : State) (low high : Bool) : State :=
  { s with flight := { s.flight with cut := some (low, high) } }

/-- Something happens at the pins or in the bus interface (R551). -/
def State.occur (s : State) : Event → State
  | .nmi level => s.setNmi level
  | .intr level type => { s with pins := { s.pins with intr := level, intType := type } }
  | .test level => { s with pins := { s.pins with test := level } }
  | .hold level => s.setHold level
  | .request ch => s.request ch
  | .grant => s.grant
  | .release ch => s.release ch
  | .master op => s.masterCycle op
  | .fetch => s.biuFetch
  | .wait n => { s with waits := n }
  | .neverReady => { s with hung := true }
  | .resetDrv => { s with devices := s.devices.map Device.reset }
  | .reset low high => s.setCut low high

/-- Something happens at a point, if it can there; nothing does after RESET. -/
def State.occurAt (s : State) (pt : Point) (e : Event) : State :=
  if s.flight.cut.isNone && pt.admits s.params e then s.occur e else s

/-- What happens at a point, event after event. -/
def State.occurAll (pt : Point) : List Event → State → State
  | [], s => s
  | e :: es, s => State.occurAll pt es (s.occurAt pt e)

/-- The CPU comes to a point between two bus cycles: what the script has for it happens. There is nothing to happen
while the task goes through its past cycles again, or can go no further. -/
def State.pass (s : State) (pt : Point) : State :=
  if s.flight.stalled.isSome || !s.flight.again.isEmpty then s
  else
    match s.flight.gaps with
    | [] => s
    | es :: rest => State.occurAll pt es { s with flight := { s.flight with gaps := rest } }

/-- The task goes no further in this turn, from a point on. -/
def State.stall (s : State) (pt : Point) : State :=
  { s with flight := { s.flight with stalled := some { point := pt, held := s.registers } } }

/-- The low and the high half of a write cycle, each where it lands (R620, U23). -/
def State.landHalves (s : State) (c : BusCycle) (low high : Bool) : State :=
  match c.addr, c.kind.isWrite with
  | some a, true =>
    let sp : Space := if c.kind = .memw then .memory else .io
    let put (t : State) (a : Addr) (v : Option Byte) (lands : Bool) : State :=
      match v with
      | some b => if lands then t.output sp a b else t
      | none => t
    put (put s a c.data.low low) (if c.data.low.isSome then a + 1 else a) c.data.high high
  | _, _ => s

/-- What RESET leaves of the cycle in progress, which is the one that hangs, or else the one about to run
(R620, U23). -/
def State.cutCycle (s : State) (low high : Bool) (next : Option BusCycle) : State :=
  match s.stuck with
  | some c => s.landHalves c low high
  | none =>
    match next with
    | some c => if s.owner = .cpu then s.landHalves c low high else s
    | none => s

/-- One bus cycle of the task being run, with the point before it. A cycle that is over already gives its data again;
a cycle that cannot run stalls the task, and so does RESET (R170, R182, R194, R620). -/
def State.cycle (s : State) (pt : Point) (kind : BusKind) (addr : Option Addr) (seg : Option SegReg)
    (move : State → Lanes × State) : Lanes × State :=
  match s.flight.again with
  | l :: rest => (l, { s with flight := { s.flight with again := rest } })
  | [] =>
    let t := s.pass pt
    if t.flight.stalled.isSome then (.none, t)
    else
      match t.flight.cut with
      | some h => (.none, (t.cutCycle h.1 h.2 (some (t.busCycle kind addr seg (move t).1))).stall pt)
      | none =>
        let r := t.runCycle kind addr seg move
        if t.barred then (r.1, r.2.stall pt) else r

end Sys2Proof.Machine
end

