-- ==== Sys2Proof/Machine/Ops.lean ====
section
/-! DEFINITION. The accesses an instruction makes, in whole bus cycles, the stack, and the taking of an interrupt with
the return from one (`20_memory.md`, `60_exceptions.md` R530, R532). Every access is followed by the state it leaves: a
value is the first component. -/

namespace Sys2Proof.Machine

/-! ## Bytes and words of a space (R123, R126 to R131, R133) -/

/-- A read cycle that moves one byte (R123, R128). -/
def State.readOne (s : State) (pt : Point) (sp : Space) (a : Addr) (seg : Option SegReg) : Byte × State :=
  let r := s.cycle pt sp.readKind (some a) seg fun t =>
    let b := t.input sp a
    (Lanes.byte a b.1, b.2)
  (r.1.byteOf a, r.2)

/-- A write cycle that moves one byte (R123, R128). -/
def State.writeOne (s : State) (pt : Point) (sp : Space) (a : Addr) (v : Byte) (seg : Option SegReg) : State :=
  (s.cycle pt sp.writeKind (some a) seg fun t => (Lanes.byte a v, t.output sp a v)).2

/-- A word read from the addresses of its low and its high byte: one cycle when the low byte's address is even, two
when it is odd, the low byte first (R126, R129, R130, R133). What devices make of the one cycle is log entry 17. -/
def State.readPair (s : State) (sp : Space) (lo hi : Addr) (seg : Option SegReg) : Word × State :=
  if lo.getLsbD 0 then
    let b := s.readOne .between sp lo seg
    let c := b.2.readOne .insideWord sp hi seg
    (wordOf b.1 c.1, c.2)
  else
    let r := s.cycle .between sp.readKind (some lo) seg fun t =>
      let w := t.inputWord sp lo hi
      (Lanes.word w.1, w.2)
    (r.1.toWord, r.2)

/-- A word written, as `readPair` reads it (R126, R129, R130, R133). -/
def State.writePair (s : State) (sp : Space) (lo hi : Addr) (v : Word) (seg : Option SegReg) : State :=
  if lo.getLsbD 0 then
    (s.writeOne .between sp lo (lowByte v) seg).writeOne .insideWord sp hi (highByte v) seg
  else
    (s.cycle .between sp.writeKind (some lo) seg fun t => (Lanes.word v, t.outputWord sp lo hi v)).2

/-! ## Memory through a segment, and the I/O space (R15, R142) -/

/-- `Mem[g:off, 1]` read (R15). -/
def State.readMem8 (s : State) (g : SegReg) (off : Word) : Byte × State :=
  s.readOne .between .memory (s.addr g off) (some g)

/-- `Mem[g:off, 1]` written (R15). -/
def State.writeMem8 (s : State) (g : SegReg) (off : Word) (v : Byte) : State :=
  s.writeOne .between .memory (s.addr g off) v (some g)

/-- `Mem[g:off, 2]` read; the offset wraps inside the segment (R15, R142). -/
def State.readMem16 (s : State) (g : SegReg) (off : Word) : Word × State :=
  s.readPair .memory (s.addr g off) (s.addr g (off + 1)) (some g)

/-- `Mem[g:off, 2]` written; the offset wraps inside the segment (R15, R142). -/
def State.writeMem16 (s : State) (g : SegReg) (off : Word) (v : Word) : State :=
  s.writePair .memory (s.addr g off) (s.addr g (off + 1)) v (some g)

/-- The address on the bus in an I/O cycle: the port on A15 to A0, zero above (R124). -/
def portAddr (p : Word) : Addr := p.setWidth 20

/-- `IoRead(p, 1)` (R322). -/
def State.ioRead8 (s : State) (p : Word) : Byte × State := s.readOne .between .io (portAddr p) none

/-- `IoWrite(p, 1, v)` (R323). -/
def State.ioWrite8 (s : State) (p : Word) (v : Byte) : State := s.writeOne .between .io (portAddr p) v none

/-- `IoRead(p, 2)`, `p` not FFFFH: one cycle at an even port, two at an odd one (R133, R322). -/
def State.ioRead16 (s : State) (p : Word) : Word × State := s.readPair .io (portAddr p) (portAddr (p + 1)) none

/-- `IoWrite(p, 2, v)`, `p` not FFFFH (R133, R323). -/
def State.ioWrite16 (s : State) (p : Word) (v : Word) : State := s.writePair .io (portAddr p) (portAddr (p + 1)) v none

/-! ## Cycles that address nothing -/

/-- The acknowledge sequence of INTR: two cycles, nothing between them, the type number on D0 to D7 in the second
(R176, R532). -/
def State.acknowledge (s : State) : Byte × State :=
  let a := s.cycle .between .inta none none fun t => (.none, t)
  let b := a.2.cycle .insideAck .inta none none fun t => ({ low := some t.pins.intType, high := none }, t)
  (b.1.low.getD 0, b.2)

/-- The halt cycle (R177). -/
def State.haltCycle (s : State) : State := (s.cycle .between .halt none none fun t => (.none, t)).2

/-! ## The stack (R310) -/

/-- `push16(v)` (R310). -/
def State.push16 (s : State) (v : Word) : State :=
  let t := s.setReg16 .sp (s.reg16 .sp - 2)
  t.writeMem16 .ss (t.reg16 .sp) v

/-- `pop16()` (R310). -/
def State.pop16 (s : State) : Word × State :=
  let r := s.readMem16 .ss (s.reg16 .sp)
  (r.1, r.2.setReg16 .sp (r.2.reg16 .sp + 2))

/-! ## The status register as a word (R33, R34) -/

/-- The stored image of the status register; bits 1, 3, 5 and 12 to 15 as the chip stores them (R34, log entry 1). -/
def Flags.image (f : Flags) : Word :=
  0xF#4 ++ BitVec.ofBool f.ofl ++ BitVec.ofBool f.df ++ BitVec.ofBool f.ifl ++ BitVec.ofBool f.tf ++
    BitVec.ofBool f.sf ++ BitVec.ofBool f.zf ++ 0#1 ++ BitVec.ofBool f.af ++ 0#1 ++ BitVec.ofBool f.pf ++ 1#1 ++
    BitVec.ofBool f.cf

/-- The nine flags loaded from a word; its other seven bits are ignored (R34, R324). -/
def Flags.ofImage (w : Word) : Flags :=
  { cf := w.getLsbD 0, pf := w.getLsbD 2, af := w.getLsbD 4, zf := w.getLsbD 6, sf := w.getLsbD 7,
    tf := w.getLsbD 8, ifl := w.getLsbD 9, df := w.getLsbD 10, ofl := w.getLsbD 11 }

/-! ## Transfers of control (R450) -/

/-- The instruction queue emptied (R45), reported on QS1 QS0. -/
def State.emptyQueue (s : State) : State :=
  { s with queue := [], log := { s.log with queue := s.log.queue ++ [.emptied] } }

/-- The queue emptied at a transfer of control, after the last fetches of the old stream (R45, R657); a task that waits
for the bus has not come to it. -/
def State.flushQueue (s : State) : State :=
  let t := s.pass .between
  if t.flight.stalled.isSome then t else t.emptyQueue

/-- `IP <- v`: a transfer inside the code segment, which empties the queue (R45, R450). -/
def State.jumpNear (s : State) (v : Word) : State := { s.flushQueue with ip := v }

/-- `pc <- seg:off`: a far transfer (R14, R450). -/
def State.jumpFar (s : State) (seg off : Word) : State := { s.flushQueue.setSegReg .cs seg with ip := off }

/-! ## Taking an interrupt, and the return (R530, R477) -/

/-- The address of the vector of a type, its `k`-th byte (R520). -/
def vectorAddr (t : Byte) (k : Nat) : Addr := BitVec.ofNat 20 (4 * t.toNat + k)

/-- The two words of a vector: new IP, then new CS (R520, R530 step 5). -/
def State.readVector (s : State) (t : Byte) : (Word × Word) × State :=
  let off := s.readPair .memory (vectorAddr t 0) (vectorAddr t 1) none
  let seg := off.2.readPair .memory (vectorAddr t 2) (vectorAddr t 3) none
  ((off.1, seg.1), seg.2)

/-- Steps 1 to 4 of the interrupt sequence: the frame is pushed and IF and TF are cleared; the words go down the stack,
the higher one first (R530, log entry 44). -/
def State.pushFrame (s : State) (rcs rip : Word) : State :=
  let a := s.push16 s.flags.image
  let b := a.setFlags { a.flags with ifl := false, tf := false }
  (b.push16 rcs).push16 rip

/-- Whether a type-1 interrupt is owed after a sequence of type `t`: one is if TF was 1 before it, or was owed already
from an earlier sequence at this boundary, unless `t` is 1 itself (R529). Where R529 and R527, or the prose of R529 and
its flow, part ways, log entry 23 says which the model takes: none after `INT 1`; where a `POPF` or an `IRET` has changed
TF and an NMI or INTR is recognised right behind it, none if TF was cleared and one if it was set; one after an NMI that
follows a sequence run with TF = 1. -/
def State.owedAfter (s : State) (t : Byte) : Trap :=
  if t ≠ 1 ∧ (s.flags.tf = true ∨ s.trap = .nested) then .nested else .none

/-- `Interrupt(t)` with return address `rcs:rip` (R530). The vector is read after or before the pushes
(`IntSeqBusOrder`, U16). -/
def State.interrupt (s : State) (t : Byte) (rcs rip : Word) : State :=
  let owed := s.owedAfter t
  let v := if s.params.vectorFirst then s.readVector t else (s.pushFrame rcs rip).readVector t
  let u := if s.params.vectorFirst then v.2.pushFrame rcs rip else v.2
  { (u.jumpFar v.1.2 v.1.1) with halted := false, trap := owed }

/-- An interrupt an instruction raises: the return address is the next instruction (R521, R525). After a `LOCK` prefix
#LOCK stays active through the sequence (log entry 45). -/
def State.raise (s : State) (t : Byte) : State := s.interrupt t (s.segReg .cs) s.ip

/-- The return from an interrupt: `IP <- pop16(); CS <- pop16(); FLAGS <- pop16()` (R477). -/
def State.interruptReturn (s : State) : State :=
  let ip := s.pop16
  let cs := ip.2.pop16
  let fl := cs.2.pop16
  (fl.2.setFlags (Flags.ofImage fl.1)).jumpFar cs.1 ip.1

end Sys2Proof.Machine
end

