-- ==== Sys2Proof/Machine/Flags.lean ====
section
/-! DEFINITION. Every flag computation of the spec, for operands of `n` bits (8 or 16): R350 (arithmetic), R400
(logic), R402 to R408 (shifts and rotates), and the flags an instruction leaves undefined (R35, U2). -/

namespace Sys2Proof.Machine

/-- `parity8`: 1 when the low 8 bits hold an even number of ones (R13, R350). -/
def parity8 {n : Nat} (v : BitVec n) : Bool :=
  !((v.getLsbD 0 ^^ v.getLsbD 1) ^^ (v.getLsbD 2 ^^ v.getLsbD 3) ^^
    ((v.getLsbD 4 ^^ v.getLsbD 5) ^^ (v.getLsbD 6 ^^ v.getLsbD 7)))

/-- SF, ZF and PF from a result (R350, R400). -/
def Flags.withResult {n : Nat} (f : Flags) (r : BitVec n) : Flags :=
  { f with sf := r.msb, zf := decide (r = 0), pf := parity8 r }

/-! ## Addition and subtraction (R350) -/

/-- The result of `add_flags(a, b, c)` (R350). -/
def sumOf {n : Nat} (a b : BitVec n) (c : Bool) : BitVec n := BitVec.ofNat n (a.toNat + b.toNat + c.toNat)

/-- The flags of `add_flags(a, b, c)` (R350). -/
def Flags.sum {n : Nat} (f : Flags) (a b : BitVec n) (c : Bool) : Flags :=
  let r := sumOf a b c
  { f.withResult r with
    cf := decide (2 ^ n ≤ a.toNat + b.toNat + c.toNat)
    af := decide (16 ≤ a.toNat % 16 + b.toNat % 16 + c.toNat)
    ofl := decide (a.msb = b.msb) && decide (r.msb ≠ a.msb) }

/-- The result of `sub_flags(a, b, c)`: `a - b - c` (R350). -/
def diffOf {n : Nat} (a b : BitVec n) (c : Bool) : BitVec n := a - b - BitVec.ofNat n c.toNat

/-- The flags of `sub_flags(a, b, c)`; CF is the borrow (R350). -/
def Flags.diff {n : Nat} (f : Flags) (a b : BitVec n) (c : Bool) : Flags :=
  let r := diffOf a b c
  { f.withResult r with
    cf := decide (a.toNat < b.toNat + c.toNat)
    af := decide (a.toNat % 16 < b.toNat % 16 + c.toNat)
    ofl := decide (a.msb ≠ b.msb) && decide (r.msb ≠ a.msb) }

/-- The flags of `logic_flags(r)`, AF apart (R400). -/
def Flags.logic {n : Nat} (f : Flags) (r : BitVec n) : Flags := { f.withResult r with cf := false, ofl := false }

/-! ## What an arithmetic or logic operation answers -/

/-- A two-operand operation: from the flags before, the destination and the source, the result and the flags after. -/
abbrev Alu (n : Nat) := Flags → BitVec n → BitVec n → BitVec n × Flags

/-- `ADD` (R351). -/
def Alu.add {n : Nat} : Alu n := fun f a b => (sumOf a b false, f.sum a b false)

/-- `ADC`, CF read before it is written (R352). -/
def Alu.adc {n : Nat} : Alu n := fun f a b => (sumOf a b f.cf, f.sum a b f.cf)

/-- `SUB`, and `CMP` without its result (R356, R360). -/
def Alu.sub {n : Nat} : Alu n := fun f a b => (diffOf a b false, f.diff a b false)

/-- `SBB` (R357). -/
def Alu.sbb {n : Nat} : Alu n := fun f a b => (diffOf a b f.cf, f.diff a b f.cf)

/-- `AND`, and `TEST` without its result; AF apart (R409, R410). -/
def Alu.and {n : Nat} : Alu n := fun f a b => (a &&& b, f.logic (a &&& b))

/-- `OR`; AF apart (R411). -/
def Alu.or {n : Nat} : Alu n := fun f a b => (a ||| b, f.logic (a ||| b))

/-- `XOR`; AF apart (R412). -/
def Alu.xor {n : Nat} : Alu n := fun f a b => (a ^^^ b, f.logic (a ^^^ b))

/-- A one-operand operation. -/
abbrev Alu1 (n : Nat) := Flags → BitVec n → BitVec n × Flags

/-- `INC`: CF keeps its value (R353). -/
def Alu1.inc {n : Nat} : Alu1 n := fun f a => (sumOf a 1#n false, { f.sum a 1#n false with cf := f.cf })

/-- `DEC`: CF keeps its value (R358). -/
def Alu1.dec {n : Nat} : Alu1 n := fun f a => (diffOf a 1#n false, { f.diff a 1#n false with cf := f.cf })

/-- `NEG` (R359). -/
def Alu1.neg {n : Nat} : Alu1 n := fun f a => (diffOf 0#n a false, f.diff 0#n a false)

/-- `NOT`: no flag (R401). -/
def Alu1.not {n : Nat} : Alu1 n := fun f a => (a ^^^ BitVec.allOnes n, f)

/-! ## Shifts and rotates (R400 to R408) -/

/-- The seven operations of group 2 (R274). -/
inductive Shift where
  | rol
  | ror
  | rcl
  | rcr
  | shl
  | shr
  | sar
  deriving DecidableEq, Repr

/-- A bit at the top of a vector of `n` bits. -/
def topBit (n : Nat) (b : Bool) : BitVec n := BitVec.ofNat n b.toNat <<< (n - 1)

/-- One single-bit step, on CF and the operand (R402 to R408). -/
def Shift.once {n : Nat} (k : Shift) (cf : Bool) (v : BitVec n) : Bool × BitVec n :=
  match k with
  | .rol => (v.msb, (v <<< 1) ||| BitVec.ofNat n v.msb.toNat)
  | .ror => (v.getLsbD 0, (v >>> 1) ||| topBit n (v.getLsbD 0))
  | .rcl => (v.msb, (v <<< 1) ||| BitVec.ofNat n cf.toNat)
  | .rcr => (v.getLsbD 0, (v >>> 1) ||| topBit n cf)
  | .shl => (v.msb, v <<< 1)
  | .shr => (v.getLsbD 0, v >>> 1)
  | .sar => (v.getLsbD 0, (v >>> 1) ||| topBit n v.msb)

/-- Exactly `count` single-bit steps: the 8086 does not mask the count (R400). -/
def Shift.steps {n : Nat} (k : Shift) : Nat → Bool → BitVec n → Bool × BitVec n
  | 0, cf, v => (cf, v)
  | count + 1, cf, v => Shift.steps k count (k.once cf v).1 (k.once cf v).2

/-- Whether an operation of group 2 is a rotate, which leaves SF, ZF, AF and PF alone (R405 to R408). -/
def Shift.isRotate : Shift → Bool
  | .rol | .ror | .rcl | .rcr => true
  | .shl | .shr | .sar => false

/-- OF after a count of 1: from the operand before, and CF and the operand after (R402 to R408). -/
def Shift.overflow {n : Nat} (k : Shift) (before : BitVec n) (cf : Bool) (after : BitVec n) : Bool :=
  match k with
  | .rol | .rcl | .shl => after.msb ^^ cf
  | .ror | .rcr => after.msb ^^ after.getLsbD (n - 2)
  | .shr => before.msb
  | .sar => false

/-- The flags the rules give after a count that is not 0; AF of a shift and OF of a count other than 1 are undefined
and stand apart (R400, `Shift.undefined`). -/
def Flags.shifted {n : Nat} (f : Flags) (k : Shift) (count : Nat) (before : BitVec n) : Flags :=
  let r := k.steps count f.cf before
  let g := if k.isRotate then f else f.withResult r.2
  { g with cf := r.1, ofl := if count = 1 then k.overflow before r.1 r.2 else g.ofl }

/-! ## Undefined flags -/

/-- The six flags an instruction can leave undefined (R35). -/
inductive Flag where
  | cf
  | pf
  | af
  | zf
  | sf
  | ofl
  deriving DecidableEq, Repr

/-- A flag written. -/
def Flags.put (f : Flags) (k : Flag) (b : Bool) : Flags :=
  match k with
  | .cf => { f with cf := b } | .pf => { f with pf := b } | .af => { f with af := b }
  | .zf => { f with zf := b } | .sf => { f with sf := b } | .ofl => { f with ofl := b }

/-- Each flag of the list takes a free bit of its own: `draw(1)` (R35, U2, log entry 5). -/
def State.undef (s : State) : List Flag → State
  | [] => s
  | k :: ks => State.undef { s.drawBit.2 with flags := s.flags.put k s.drawBit.1 } ks

/-- The flags a shift or rotate leaves undefined: AF after a shift, OF after a count other than 1 (R400). -/
def Shift.undefined (k : Shift) (count : Nat) : List Flag :=
  (if k.isRotate then [] else [.af]) ++ (if count = 1 then [] else [.ofl])

end Sys2Proof.Machine
end

