-- ==== Sys2Proof/Machine/Operands.lean ====
section
/-! DEFINITION. The operand forms: effective addresses (R264), segments and overrides (R141, R508), the `r/m` operand
read and written (R310), and the shapes of the instructions that use it. -/

namespace Sys2Proof.Machine

/-- `CX <- CX - 1`; no flag changes (R430, R470). -/
def State.decCx (s : State) : State := s.setReg16 .cx (s.reg16 .cx - 1)

/-! ## Effective addresses -/

/-- The sum of the base registers (R264). -/
def Regs.base (g : Regs) : Base → Word
  | .bxsi => g.bx + g.si
  | .bxdi => g.bx + g.di
  | .bpsi => g.bp + g.si
  | .bpdi => g.bp + g.di
  | .si => g.si
  | .di => g.di
  | .bp => g.bp
  | .bx => g.bx

/-- The displacement as a word: a byte is sign-extended (R264). -/
def dispWord : Disp → Word
  | .none => 0
  | .d8 d => d.signExtend 16
  | .d16 d => d

/-- The effective address, modulo 2^16 (R264). -/
def State.ea (s : State) : MemOp → Word
  | .direct off => off
  | .based b d => s.regs.base b + dispWord d

/-- The default segment of a memory operand: SS where BP takes part, DS elsewhere (R141, R264). -/
def defaultSeg : MemOp → SegReg
  | .based .bpsi _ | .based .bpdi _ | .based .bp _ => .ss
  | _ => .ds

/-- The segment of an access an override can change (R141, R508). -/
def State.overridden (s : State) (g : SegReg) : SegReg := s.armed.seg.getD g

/-- The segment of a memory operand (R141). -/
def State.segOf (s : State) (m : MemOp) : SegReg := s.overridden (defaultSeg m)

/-! ## The r/m operand -/

/-- Where an operand stands, its address computed once (R310). -/
inductive Place (ρ : Type) where
  | reg (r : ρ)
  | mem (g : SegReg) (off : Word)
  deriving DecidableEq, Repr

/-- The place of an `r/m` operand, computed before the instruction changes a register (R264, R310). -/
def State.place {ρ : Type} (s : State) : RM ρ → Place ρ
  | .reg r => .reg r
  | .mem m => .mem (s.segOf m) (s.ea m)

/-- `rd(E)`, a byte (R310). -/
def State.get8 (s : State) : Place Reg8 → Byte × State
  | .reg r => (s.reg8 r, s)
  | .mem g off => s.readMem8 g off

/-- `wr(E, v)`, a byte (R310). -/
def State.put8 (s : State) (p : Place Reg8) (v : Byte) : State :=
  match p with
  | .reg r => s.setReg8 r v
  | .mem g off => s.writeMem8 g off v

/-- `rd(E)`, a word (R310). -/
def State.get16 (s : State) : Place Reg16 → Word × State
  | .reg r => (s.reg16 r, s)
  | .mem g off => s.readMem16 g off

/-- `wr(E, v)`, a word (R310). -/
def State.put16 (s : State) (p : Place Reg16) (v : Word) : State :=
  match p with
  | .reg r => s.setReg16 r v
  | .mem g off => s.writeMem16 g off v

/-- The far pointer of a memory operand: the offset word, then the segment word two bytes on (R134, R317). -/
def State.readFar (s : State) (m : MemOp) : (Word × Word) × State :=
  let off := s.readMem16 (s.segOf m) (s.ea m)
  let seg := off.2.readMem16 (s.segOf m) (s.ea m + 2)
  ((off.1, seg.1), seg.2)

/-! ## Shapes of the arithmetic and logic instructions -/

/-- `dst <- op(dst, src)` for bytes; the destination is read once, then written once (R310). -/
def State.update8 (s : State) (p : Place Reg8) (op : Alu1 8) : State :=
  let d := s.get8 p
  let r := op d.2.flags d.1
  (d.2.setFlags r.2).put8 p r.1

/-- `dst <- op(dst, src)` for words (R310). -/
def State.update16 (s : State) (p : Place Reg16) (op : Alu1 16) : State :=
  let d := s.get16 p
  let r := op d.2.flags d.1
  (d.2.setFlags r.2).put16 p r.1

/-- `op(dst, src)` for its flags only, bytes (R360, R410). -/
def State.inspect8 (s : State) (p : Place Reg8) (op : Alu1 8) : State :=
  let d := s.get8 p
  d.2.setFlags (op d.2.flags d.1).2

/-- `op(dst, src)` for its flags only, words (R360, R410). -/
def State.inspect16 (s : State) (p : Place Reg16) (op : Alu1 16) : State :=
  let d := s.get16 p
  d.2.setFlags (op d.2.flags d.1).2

/-- `op r/m8, src`: the source is a register or an immediate, already read (R351). -/
def State.aluTo8 (s : State) (op : Alu 8) (e : RM Reg8) (src : Byte) : State :=
  s.update8 (s.place e) fun f a => op f a src

/-- `op r/m16, src` (R351). -/
def State.aluTo16 (s : State) (op : Alu 16) (e : RM Reg16) (src : Word) : State :=
  s.update16 (s.place e) fun f a => op f a src

/-- `op r8, r/m8` (R351). -/
def State.aluFrom8 (s : State) (op : Alu 8) (r : Reg8) (e : RM Reg8) : State :=
  let v := s.get8 (s.place e)
  v.2.update8 (.reg r) fun f a => op f a v.1

/-- `op r16, r/m16` (R351). -/
def State.aluFrom16 (s : State) (op : Alu 16) (r : Reg16) (e : RM Reg16) : State :=
  let v := s.get16 (s.place e)
  v.2.update16 (.reg r) fun f a => op f a v.1

/-- `op r/m8, src` for its flags only (R360, R410). -/
def State.testTo8 (s : State) (op : Alu 8) (e : RM Reg8) (src : Byte) : State :=
  s.inspect8 (s.place e) fun f a => op f a src

/-- `op r/m16, src` for its flags only (R360, R410). -/
def State.testTo16 (s : State) (op : Alu 16) (e : RM Reg16) (src : Word) : State :=
  s.inspect16 (s.place e) fun f a => op f a src

/-- `op r8, r/m8` for its flags only (R360). -/
def State.testFrom8 (s : State) (op : Alu 8) (r : Reg8) (e : RM Reg8) : State :=
  let v := s.get8 (s.place e)
  v.2.inspect8 (.reg r) fun f a => op f a v.1

/-- `op r16, r/m16` for its flags only (R360). -/
def State.testFrom16 (s : State) (op : Alu 16) (r : Reg16) (e : RM Reg16) : State :=
  let v := s.get16 (s.place e)
  v.2.inspect16 (.reg r) fun f a => op f a v.1

/-! ## Shape of the shifts and rotates -/

/-- Whether a shift by 0 writes its unchanged memory operand back is a free bit; there is nothing to write back to a
register (R400, U14, log entry 26). -/
def State.writesBack {ρ : Type} (s : State) : Place ρ → Bool × State
  | .reg _ => (false, s)
  | .mem _ _ => s.drawBit

/-- A shift or rotate of a byte by `count` (R400). -/
def State.shift8 (s : State) (k : Shift) (e : RM Reg8) (count : Nat) : State :=
  let p := s.place e
  let d := s.get8 p
  if count = 0 then
    let w := d.2.writesBack p
    if w.1 then w.2.put8 p d.1 else w.2
  else
    let f := d.2.flags.shifted k count d.1
    ((d.2.setFlags f).put8 p (k.steps count d.2.flags.cf d.1).2).undef (k.undefined count)

/-- A shift or rotate of a word by `count` (R400). -/
def State.shift16 (s : State) (k : Shift) (e : RM Reg16) (count : Nat) : State :=
  let p := s.place e
  let d := s.get16 p
  if count = 0 then
    let w := d.2.writesBack p
    if w.1 then w.2.put16 p d.1 else w.2
  else
    let f := d.2.flags.shifted k count d.1
    ((d.2.setFlags f).put16 p (k.steps count d.2.flags.cf d.1).2).undef (k.undefined count)

end Sys2Proof.Machine
end

