-- ==== Sys2Proof/Machine/Arithmetic.lean ====
section
/-! DEFINITION. The meanings of the arithmetic instructions (`42_arithmetic.md`). -/

namespace Sys2Proof.Machine

/-- The six arithmetic flags, all undefined after a division (R366, R367). -/
def sixFlags : List Flag := [.cf, .pf, .af, .zf, .sf, .ofl]

/-- `AAA` and `AAS`, from the adjusted AL and AH (R354, R361). -/
def State.asciiAdjust (s : State) (al ah : Byte) : State :=
  let adjust := decide (9 < (s.reg8 .al).toNat % 16) || s.flags.af
  let t := if adjust then (s.setReg8 .al (al &&& 0x0F)).setReg8 .ah ah else s.setReg8 .al (s.reg8 .al &&& 0x0F)
  (t.setFlags { t.flags with af := adjust, cf := adjust }).undef [.ofl, .sf, .zf, .pf]

/-- AL, AF and CF are what `ADD` or `ADC` of two packed-BCD bytes can leave: each digit sum is at most 19
(R355, log entry 6). -/
def Flags.fromBcdSum (f : Flags) (al : Byte) : Bool :=
  let lo := al.toNat % 16
  let hi := al.toNat / 16
  (!f.af || decide (lo ≤ 3)) && (if f.cf then decide (hi ≤ 2 + f.af.toNat) else (!f.af || decide (1 ≤ hi)))

/-- AL, AF and CF are what `SUB` or `SBB` of two packed-BCD bytes can leave: each digit difference is at least -10
(R362, log entry 6). -/
def Flags.fromBcdDiff (f : Flags) (al : Byte) : Bool :=
  let lo := al.toNat % 16
  let hi := al.toNat / 16
  (if f.af then decide (6 ≤ lo) else decide (lo ≤ 9)) &&
    (if f.cf then decide (7 - f.af.toNat ≤ hi) else decide (hi ≤ 9 - f.af.toNat))

/-- `DAA` and `DAS`, with `step` adding or subtracting the correction. On inputs that no BCD operation leaves, AL, AF
and CF take free values; SF, ZF and PF come from the final AL, OF is undefined (R355, R362, U12). -/
def State.decimalAdjust (s : State) (valid : Bool) (step : Byte → Byte → Byte) : State :=
  let low := decide (9 < (s.reg8 .al).toNat % 16) || s.flags.af
  let a := if low then step (s.reg8 .al) 0x06 else s.reg8 .al
  let high := decide (0x9F < a.toNat) || s.flags.cf
  let b := if high then step a 0x60 else a
  let r := if valid then (b, s) else s.drawByte
  let t := (r.2.setReg8 .al r.1).setFlags { s.flags.withResult r.1 with af := low, cf := high }
  t.undef (if valid then [.ofl] else [.af, .cf, .ofl])

/-- CF and OF after a multiplication say whether the upper half is needed; SF, ZF, AF and PF are undefined
(R363, R364). -/
def State.productFlags (s : State) (wide : Bool) : State :=
  (s.setFlags { s.flags with cf := wide, ofl := wide }).undef [.sf, .zf, .af, .pf]

/-- The doubleword DX:AX (R366). -/
def State.pair (s : State) : BitVec 32 := s.reg16 .dx ++ s.reg16 .ax

/-- The doubleword DX:AX written (R363). -/
def State.setPair (s : State) (p : BitVec 32) : State :=
  (s.setReg16 .dx (p.extractLsb' 16 16)).setReg16 .ax (p.extractLsb' 0 16)

/-- The divide error of a byte division: AL, AH and the flags are free, and interrupt 0 is taken with the next
instruction as its return address (R366, R526, log entry 7). -/
def State.divideError8 (s : State) : State :=
  let a := s.drawWord
  ((a.2.setReg16 .ax a.1).undef sixFlags).raise 0

/-- The divide error of a word division: AX, DX and the flags are free (R366, R526, log entry 7). -/
def State.divideError16 (s : State) : State :=
  let a := s.drawWord
  let d := a.2.drawWord
  (((d.2.setReg16 .ax a.1).setReg16 .dx d.1).undef sixFlags).raise 0

/-- `ADD r/m8, r8` (R351). -/
def execAddRm8R8 (e : RM Reg8) (r : Reg8) (s : State) : Result := .next (s.aluTo8 Alu.add e (s.reg8 r))

/-- `ADD r/m16, r16` (R351). -/
def execAddRm16R16 (e : RM Reg16) (r : Reg16) (s : State) : Result := .next (s.aluTo16 Alu.add e (s.reg16 r))

/-- `ADD r8, r/m8` (R351). -/
def execAddR8Rm8 (r : Reg8) (e : RM Reg8) (s : State) : Result := .next (s.aluFrom8 Alu.add r e)

/-- `ADD r16, r/m16` (R351). -/
def execAddR16Rm16 (r : Reg16) (e : RM Reg16) (s : State) : Result := .next (s.aluFrom16 Alu.add r e)

/-- `ADD AL, imm8` (R351). -/
def execAddAlImm8 (v : Byte) (s : State) : Result := .next (s.aluTo8 Alu.add (.reg .al) v)

/-- `ADD AX, imm16` (R351). -/
def execAddAxImm16 (v : Word) (s : State) : Result := .next (s.aluTo16 Alu.add (.reg .ax) v)

/-- `ADC r/m8, r8` (R352). -/
def execAdcRm8R8 (e : RM Reg8) (r : Reg8) (s : State) : Result := .next (s.aluTo8 Alu.adc e (s.reg8 r))

/-- `ADC r/m16, r16` (R352). -/
def execAdcRm16R16 (e : RM Reg16) (r : Reg16) (s : State) : Result := .next (s.aluTo16 Alu.adc e (s.reg16 r))

/-- `ADC r8, r/m8` (R352). -/
def execAdcR8Rm8 (r : Reg8) (e : RM Reg8) (s : State) : Result := .next (s.aluFrom8 Alu.adc r e)

/-- `ADC r16, r/m16` (R352). -/
def execAdcR16Rm16 (r : Reg16) (e : RM Reg16) (s : State) : Result := .next (s.aluFrom16 Alu.adc r e)

/-- `ADC AL, imm8` (R352). -/
def execAdcAlImm8 (v : Byte) (s : State) : Result := .next (s.aluTo8 Alu.adc (.reg .al) v)

/-- `ADC AX, imm16` (R352). -/
def execAdcAxImm16 (v : Word) (s : State) : Result := .next (s.aluTo16 Alu.adc (.reg .ax) v)

/-- `SBB r/m8, r8` (R357). -/
def execSbbRm8R8 (e : RM Reg8) (r : Reg8) (s : State) : Result := .next (s.aluTo8 Alu.sbb e (s.reg8 r))

/-- `SBB r/m16, r16` (R357). -/
def execSbbRm16R16 (e : RM Reg16) (r : Reg16) (s : State) : Result := .next (s.aluTo16 Alu.sbb e (s.reg16 r))

/-- `SBB r8, r/m8` (R357). -/
def execSbbR8Rm8 (r : Reg8) (e : RM Reg8) (s : State) : Result := .next (s.aluFrom8 Alu.sbb r e)

/-- `SBB r16, r/m16` (R357). -/
def execSbbR16Rm16 (r : Reg16) (e : RM Reg16) (s : State) : Result := .next (s.aluFrom16 Alu.sbb r e)

/-- `SBB AL, imm8` (R357). -/
def execSbbAlImm8 (v : Byte) (s : State) : Result := .next (s.aluTo8 Alu.sbb (.reg .al) v)

/-- `SBB AX, imm16` (R357). -/
def execSbbAxImm16 (v : Word) (s : State) : Result := .next (s.aluTo16 Alu.sbb (.reg .ax) v)

/-- `SUB r/m8, r8` (R356). -/
def execSubRm8R8 (e : RM Reg8) (r : Reg8) (s : State) : Result := .next (s.aluTo8 Alu.sub e (s.reg8 r))

/-- `SUB r/m16, r16` (R356). -/
def execSubRm16R16 (e : RM Reg16) (r : Reg16) (s : State) : Result := .next (s.aluTo16 Alu.sub e (s.reg16 r))

/-- `SUB r8, r/m8` (R356). -/
def execSubR8Rm8 (r : Reg8) (e : RM Reg8) (s : State) : Result := .next (s.aluFrom8 Alu.sub r e)

/-- `SUB r16, r/m16` (R356). -/
def execSubR16Rm16 (r : Reg16) (e : RM Reg16) (s : State) : Result := .next (s.aluFrom16 Alu.sub r e)

/-- `SUB AL, imm8` (R356). -/
def execSubAlImm8 (v : Byte) (s : State) : Result := .next (s.aluTo8 Alu.sub (.reg .al) v)

/-- `SUB AX, imm16` (R356). -/
def execSubAxImm16 (v : Word) (s : State) : Result := .next (s.aluTo16 Alu.sub (.reg .ax) v)

/-- `CMP r/m8, r8` (R360). -/
def execCmpRm8R8 (e : RM Reg8) (r : Reg8) (s : State) : Result := .next (s.testTo8 Alu.sub e (s.reg8 r))

/-- `CMP r/m16, r16` (R360). -/
def execCmpRm16R16 (e : RM Reg16) (r : Reg16) (s : State) : Result := .next (s.testTo16 Alu.sub e (s.reg16 r))

/-- `CMP r8, r/m8` (R360). -/
def execCmpR8Rm8 (r : Reg8) (e : RM Reg8) (s : State) : Result := .next (s.testFrom8 Alu.sub r e)

/-- `CMP r16, r/m16` (R360). -/
def execCmpR16Rm16 (r : Reg16) (e : RM Reg16) (s : State) : Result := .next (s.testFrom16 Alu.sub r e)

/-- `CMP AL, imm8` (R360). -/
def execCmpAlImm8 (v : Byte) (s : State) : Result := .next (s.testTo8 Alu.sub (.reg .al) v)

/-- `CMP AX, imm16` (R360). -/
def execCmpAxImm16 (v : Word) (s : State) : Result := .next (s.testTo16 Alu.sub (.reg .ax) v)

/-- `ADD r/m8, imm8` (R351). -/
def execAddRm8Imm8 (e : RM Reg8) (v : Byte) (s : State) : Result := .next (s.aluTo8 Alu.add e v)

/-- `ADC r/m8, imm8` (R352). -/
def execAdcRm8Imm8 (e : RM Reg8) (v : Byte) (s : State) : Result := .next (s.aluTo8 Alu.adc e v)

/-- `SBB r/m8, imm8` (R357). -/
def execSbbRm8Imm8 (e : RM Reg8) (v : Byte) (s : State) : Result := .next (s.aluTo8 Alu.sbb e v)

/-- `SUB r/m8, imm8` (R356). -/
def execSubRm8Imm8 (e : RM Reg8) (v : Byte) (s : State) : Result := .next (s.aluTo8 Alu.sub e v)

/-- `CMP r/m8, imm8` (R360). -/
def execCmpRm8Imm8 (e : RM Reg8) (v : Byte) (s : State) : Result := .next (s.testTo8 Alu.sub e v)

/-- `ADD r/m16, imm16` (R351). -/
def execAddRm16Imm16 (e : RM Reg16) (v : Word) (s : State) : Result := .next (s.aluTo16 Alu.add e v)

/-- `ADC r/m16, imm16` (R352). -/
def execAdcRm16Imm16 (e : RM Reg16) (v : Word) (s : State) : Result := .next (s.aluTo16 Alu.adc e v)

/-- `SBB r/m16, imm16` (R357). -/
def execSbbRm16Imm16 (e : RM Reg16) (v : Word) (s : State) : Result := .next (s.aluTo16 Alu.sbb e v)

/-- `SUB r/m16, imm16` (R356). -/
def execSubRm16Imm16 (e : RM Reg16) (v : Word) (s : State) : Result := .next (s.aluTo16 Alu.sub e v)

/-- `CMP r/m16, imm16` (R360). -/
def execCmpRm16Imm16 (e : RM Reg16) (v : Word) (s : State) : Result := .next (s.testTo16 Alu.sub e v)

/-- `ADD r/m8, imm8` (R351). -/
def execAddRm8Imm8Alt (e : RM Reg8) (v : Byte) (s : State) : Result := .next (s.aluTo8 Alu.add e v)

/-- `ADC r/m8, imm8` (R352). -/
def execAdcRm8Imm8Alt (e : RM Reg8) (v : Byte) (s : State) : Result := .next (s.aluTo8 Alu.adc e v)

/-- `SBB r/m8, imm8` (R357). -/
def execSbbRm8Imm8Alt (e : RM Reg8) (v : Byte) (s : State) : Result := .next (s.aluTo8 Alu.sbb e v)

/-- `SUB r/m8, imm8` (R356). -/
def execSubRm8Imm8Alt (e : RM Reg8) (v : Byte) (s : State) : Result := .next (s.aluTo8 Alu.sub e v)

/-- `CMP r/m8, imm8` (R360). -/
def execCmpRm8Imm8Alt (e : RM Reg8) (v : Byte) (s : State) : Result := .next (s.testTo8 Alu.sub e v)

/-- `ADD r/m16, simm8` (R351). -/
def execAddRm16Simm8 (e : RM Reg16) (v : Byte) (s : State) : Result := .next (s.aluTo16 Alu.add e (v.signExtend 16))

/-- `ADC r/m16, simm8` (R352). -/
def execAdcRm16Simm8 (e : RM Reg16) (v : Byte) (s : State) : Result := .next (s.aluTo16 Alu.adc e (v.signExtend 16))

/-- `SBB r/m16, simm8` (R357). -/
def execSbbRm16Simm8 (e : RM Reg16) (v : Byte) (s : State) : Result := .next (s.aluTo16 Alu.sbb e (v.signExtend 16))

/-- `SUB r/m16, simm8` (R356). -/
def execSubRm16Simm8 (e : RM Reg16) (v : Byte) (s : State) : Result := .next (s.aluTo16 Alu.sub e (v.signExtend 16))

/-- `CMP r/m16, simm8` (R360). -/
def execCmpRm16Simm8 (e : RM Reg16) (v : Byte) (s : State) : Result := .next (s.testTo16 Alu.sub e (v.signExtend 16))

/-- `INC r16` (R353). -/
def execIncR16 (r : Reg16) (s : State) : Result := .next (s.update16 (.reg r) Alu1.inc)

/-- `INC r/m8` (R353). -/
def execIncRm8 (e : RM Reg8) (s : State) : Result := .next (s.update8 (s.place e) Alu1.inc)

/-- `INC r/m16` (R353). -/
def execIncRm16 (e : RM Reg16) (s : State) : Result := .next (s.update16 (s.place e) Alu1.inc)

/-- `DEC r16` (R358). -/
def execDecR16 (r : Reg16) (s : State) : Result := .next (s.update16 (.reg r) Alu1.dec)

/-- `DEC r/m8` (R358). -/
def execDecRm8 (e : RM Reg8) (s : State) : Result := .next (s.update8 (s.place e) Alu1.dec)

/-- `DEC r/m16` (R358). -/
def execDecRm16 (e : RM Reg16) (s : State) : Result := .next (s.update16 (s.place e) Alu1.dec)

/-- `AAA` (R354). -/
def execAaa (s : State) : Result := .next (s.asciiAdjust (s.reg8 .al + 6) (s.reg8 .ah + 1))

/-- `DAA` (R355). -/
def execDaa (s : State) : Result := .next (s.decimalAdjust (s.flags.fromBcdSum (s.reg8 .al)) fun v d => v + d)

/-- `AAS` (R361). -/
def execAas (s : State) : Result := .next (s.asciiAdjust (s.reg8 .al - 6) (s.reg8 .ah - 1))

/-- `DAS` (R362). -/
def execDas (s : State) : Result := .next (s.decimalAdjust (s.flags.fromBcdDiff (s.reg8 .al)) fun v d => v - d)

/-- `AAM` (R365). -/
def execAam (s : State) : Result :=
  let v := (s.reg8 .al).toNat
  let r := BitVec.ofNat 8 (v % 10)
  .next ((((s.setReg8 .ah (BitVec.ofNat 8 (v / 10))).setReg8 .al r).setFlags (s.flags.withResult r)).undef
    [.ofl, .af, .cf])

/-- `AAD` (R368). -/
def execAad (s : State) : Result :=
  let r := s.reg8 .ah * 10 + s.reg8 .al
  .next ((((s.setReg8 .al r).setReg8 .ah 0).setFlags (s.flags.withResult r)).undef [.ofl, .af, .cf])

/-- `CBW` (R369). -/
def execCbw (s : State) : Result := .next (s.setReg16 .ax ((s.reg8 .al).signExtend 16))

/-- `CWD` (R370). -/
def execCwd (s : State) : Result := .next (s.setReg16 .dx (if (s.reg16 .ax).msb then 0xFFFF else 0))

/-- `NEG r/m8` (R359). -/
def execNegRm8 (e : RM Reg8) (s : State) : Result := .next (s.update8 (s.place e) Alu1.neg)

/-- `NEG r/m16` (R359). -/
def execNegRm16 (e : RM Reg16) (s : State) : Result := .next (s.update16 (s.place e) Alu1.neg)

/-- `MUL r/m8` (R363). -/
def execMulRm8 (e : RM Reg8) (s : State) : Result :=
  let v := s.get8 (s.place e)
  let p := (v.2.reg8 .al).setWidth 16 * v.1.setWidth 16
  .next ((v.2.setReg16 .ax p).productFlags (decide (highByte p ≠ 0)))

/-- `MUL r/m16` (R363). -/
def execMulRm16 (e : RM Reg16) (s : State) : Result :=
  let v := s.get16 (s.place e)
  let p := (v.2.reg16 .ax).setWidth 32 * v.1.setWidth 32
  .next ((v.2.setPair p).productFlags (decide (p.extractLsb' 16 16 ≠ 0)))

/-- `IMUL r/m8` (R364). -/
def execImulRm8 (e : RM Reg8) (s : State) : Result :=
  let v := s.get8 (s.place e)
  let p := (v.2.reg8 .al).signExtend 16 * v.1.signExtend 16
  .next ((v.2.setReg16 .ax p).productFlags (decide (p ≠ (lowByte p).signExtend 16)))

/-- `IMUL r/m16` (R364). -/
def execImulRm16 (e : RM Reg16) (s : State) : Result :=
  let v := s.get16 (s.place e)
  let p := (v.2.reg16 .ax).signExtend 32 * v.1.signExtend 32
  .next ((v.2.setPair p).productFlags (decide (p ≠ (p.extractLsb' 0 16).signExtend 32)))

/-- `DIV r/m8` (R366). -/
def execDivRm8 (e : RM Reg8) (s : State) : Result :=
  let v := s.get8 (s.place e)
  let a := (v.2.reg16 .ax).toNat
  let b := v.1.toNat
  if b = 0 ∨ 0xFF < a / b then .next v.2.divideError8
  else .next (((v.2.setReg8 .al (BitVec.ofNat 8 (a / b))).setReg8 .ah (BitVec.ofNat 8 (a % b))).undef sixFlags)

/-- `DIV r/m16` (R366). -/
def execDivRm16 (e : RM Reg16) (s : State) : Result :=
  let v := s.get16 (s.place e)
  let a := v.2.pair.toNat
  let b := v.1.toNat
  if b = 0 ∨ 0xFFFF < a / b then .next v.2.divideError16
  else .next (((v.2.setReg16 .ax (BitVec.ofNat 16 (a / b))).setReg16 .dx (BitVec.ofNat 16 (a % b))).undef sixFlags)

/-- `IDIV r/m8` (R367). -/
def execIdivRm8 (e : RM Reg8) (s : State) : Result :=
  let v := s.get8 (s.place e)
  let a := (v.2.reg16 .ax).toInt
  let b := v.1.toInt
  if b = 0 ∨ 127 < a.tdiv b ∨ a.tdiv b < -127 then .next v.2.divideError8
  else .next (((v.2.setReg8 .al (BitVec.ofInt 8 (a.tdiv b))).setReg8 .ah (BitVec.ofInt 8 (a.tmod b))).undef sixFlags)

/-- `IDIV r/m16` (R367). -/
def execIdivRm16 (e : RM Reg16) (s : State) : Result :=
  let v := s.get16 (s.place e)
  let a := v.2.pair.toInt
  let b := v.1.toInt
  if b = 0 ∨ 32767 < a.tdiv b ∨ a.tdiv b < -32767 then .next v.2.divideError16
  else
    .next (((v.2.setReg16 .ax (BitVec.ofInt 16 (a.tdiv b))).setReg16 .dx (BitVec.ofInt 16 (a.tmod b))).undef sixFlags)

end Sys2Proof.Machine
end

