-- ==== Sys2Proof/Machine/Control.lean ====
section
/-! DEFINITION. The meanings of the control-transfer instructions (`45_control_transfer.md`). `s.ip` is `IP_next`. -/

namespace Sys2Proof.Machine

/-- A jump to `IP_next` plus a sign-extended byte where a condition holds; otherwise nothing, and the queue is kept
(R450, R454 to R473). -/
def State.jumpIf (s : State) (c : Bool) (d : Byte) : State :=
  if c then s.jumpNear (s.ip + d.signExtend 16) else s

/-- Bytes of parameters discarded after a return (R453). -/
def State.dropStack (s : State) (n : Word) : State := s.setReg16 .sp (s.reg16 .sp + n)

/-- `CALL rel16` (R451). -/
def execCallRel16 (d : Word) (s : State) : Result := .next ((s.push16 s.ip).jumpNear (s.ip + d))

/-- `CALL r/m16` (R451). -/
def execCallRm16 (e : RM Reg16) (s : State) : Result :=
  let t := s.get16 (s.place e)
  .next ((t.2.push16 t.2.ip).jumpNear t.1)

/-- `CALL ptr16:16`: CS is pushed before IP, the word at the higher address first (R451, log entry 44). -/
def execCallFar (off : Word) (seg : Word) (s : State) : Result :=
  .next (((s.push16 (s.segReg .cs)).push16 s.ip).jumpFar seg off)

/-- `CALL m16:16`, its pushes as in `CALL ptr16:16` (R451, log entry 44). -/
def execCallFarM (m : MemOp) (s : State) : Result :=
  let p := s.readFar m
  .next (((p.2.push16 (p.2.segReg .cs)).push16 p.2.ip).jumpFar p.1.2 p.1.1)

/-- `JMP rel16` (R452). -/
def execJmpRel16 (d : Word) (s : State) : Result := .next (s.jumpNear (s.ip + d))

/-- `JMP rel8` (R452). -/
def execJmpRel8 (d : Byte) (s : State) : Result := .next (s.jumpNear (s.ip + d.signExtend 16))

/-- `JMP r/m16` (R452). -/
def execJmpRm16 (e : RM Reg16) (s : State) : Result :=
  let t := s.get16 (s.place e)
  .next (t.2.jumpNear t.1)

/-- `JMP ptr16:16` (R452). -/
def execJmpFar (off : Word) (seg : Word) (s : State) : Result := .next (s.jumpFar seg off)

/-- `JMP m16:16` (R452). -/
def execJmpFarM (m : MemOp) (s : State) : Result :=
  let p := s.readFar m
  .next (p.2.jumpFar p.1.2 p.1.1)

/-- `RET (near)` (R453). -/
def execRetNear (s : State) : Result :=
  let r := s.pop16
  .next (r.2.jumpNear r.1)

/-- `RET imm16 (near)` (R453). -/
def execRetNearImm16 (v : Word) (s : State) : Result :=
  let r := s.pop16
  .next ((r.2.dropStack v).jumpNear r.1)

/-- `RET (far)` (R453). -/
def execRetFar (s : State) : Result :=
  let r := s.pop16
  let c := r.2.pop16
  .next (c.2.jumpFar c.1 r.1)

/-- `RET imm16 (far)` (R453). -/
def execRetFarImm16 (v : Word) (s : State) : Result :=
  let r := s.pop16
  let c := r.2.pop16
  .next ((c.2.dropStack v).jumpFar c.1 r.1)

/-- `JO rel8` (R454). -/
def execJo (d : Byte) (s : State) : Result := .next (s.jumpIf s.flags.ofl d)

/-- `JNO rel8` (R455). -/
def execJno (d : Byte) (s : State) : Result := .next (s.jumpIf (!s.flags.ofl) d)

/-- `JB/JNAE/JC rel8` (R456). -/
def execJb (d : Byte) (s : State) : Result := .next (s.jumpIf s.flags.cf d)

/-- `JNB/JAE/JNC rel8` (R457). -/
def execJnb (d : Byte) (s : State) : Result := .next (s.jumpIf (!s.flags.cf) d)

/-- `JE/JZ rel8` (R458). -/
def execJe (d : Byte) (s : State) : Result := .next (s.jumpIf s.flags.zf d)

/-- `JNE/JNZ rel8` (R459). -/
def execJne (d : Byte) (s : State) : Result := .next (s.jumpIf (!s.flags.zf) d)

/-- `JBE/JNA rel8` (R460). -/
def execJbe (d : Byte) (s : State) : Result := .next (s.jumpIf (s.flags.cf || s.flags.zf) d)

/-- `JNBE/JA rel8` (R461). -/
def execJnbe (d : Byte) (s : State) : Result := .next (s.jumpIf (!s.flags.cf && !s.flags.zf) d)

/-- `JS rel8` (R462). -/
def execJs (d : Byte) (s : State) : Result := .next (s.jumpIf s.flags.sf d)

/-- `JNS rel8` (R463). -/
def execJns (d : Byte) (s : State) : Result := .next (s.jumpIf (!s.flags.sf) d)

/-- `JP/JPE rel8` (R464). -/
def execJp (d : Byte) (s : State) : Result := .next (s.jumpIf s.flags.pf d)

/-- `JNP/JPO rel8` (R465). -/
def execJnp (d : Byte) (s : State) : Result := .next (s.jumpIf (!s.flags.pf) d)

/-- `JL/JNGE rel8` (R466). -/
def execJl (d : Byte) (s : State) : Result := .next (s.jumpIf (s.flags.sf != s.flags.ofl) d)

/-- `JNL/JGE rel8` (R467). -/
def execJnl (d : Byte) (s : State) : Result := .next (s.jumpIf (s.flags.sf == s.flags.ofl) d)

/-- `JLE/JNG rel8` (R468). -/
def execJle (d : Byte) (s : State) : Result := .next (s.jumpIf (s.flags.zf || s.flags.sf != s.flags.ofl) d)

/-- `JNLE/JG rel8` (R469). -/
def execJnle (d : Byte) (s : State) : Result := .next (s.jumpIf (!s.flags.zf && s.flags.sf == s.flags.ofl) d)

/-- `LOOP rel8` (R470). -/
def execLoop (d : Byte) (s : State) : Result := .next (s.decCx.jumpIf (decide (s.decCx.reg16 .cx ≠ 0)) d)

/-- `LOOPE/LOOPZ rel8` (R471). -/
def execLoope (d : Byte) (s : State) : Result :=
  .next (s.decCx.jumpIf (decide (s.decCx.reg16 .cx ≠ 0) && s.flags.zf) d)

/-- `LOOPNE/LOOPNZ rel8` (R472). -/
def execLoopne (d : Byte) (s : State) : Result :=
  .next (s.decCx.jumpIf (decide (s.decCx.reg16 .cx ≠ 0) && !s.flags.zf) d)

/-- `JCXZ rel8` (R473). -/
def execJcxz (d : Byte) (s : State) : Result := .next (s.jumpIf (decide (s.reg16 .cx = 0)) d)

/-- `INT imm8` (R474). -/
def execIntN (n : Byte) (s : State) : Result := .next (s.raise n)

/-- `INT 3` (R475). -/
def execInt3 (s : State) : Result := .next (s.raise 3)

/-- `INTO` (R476). -/
def execInto (s : State) : Result := if s.flags.ofl then .next (s.raise 4) else .next s

/-- `IRET` (R477). -/
def execIret (s : State) : Result := .next s.interruptReturn

end Sys2Proof.Machine
end

