-- ==== Sys2Proof/Machine/DataTransfer.lean ====
section
/-! DEFINITION. The meanings of the data-transfer instructions (`41_data_transfer.md`). An instruction sees `ip` at its
`IP_next` (log entry 28). -/

namespace Sys2Proof.Machine

/-- A segment register loaded by `MOV` or `POP`: nothing is recognised until the next instruction has completed
(R311 (b), R313 (c), R528 (b)). -/
def State.loadSeg (s : State) (g : SegReg) (v : Word) : State := { s.setSegReg g v with shadow := .all }

/-- `PUSH` of an operand; SP itself is pushed already decremented (R312, U10). -/
def State.pushOperand (s : State) (p : Place Reg16) : State :=
  if p = .reg .sp then s.push16 (s.reg16 .sp - 2)
  else
    let v := s.get16 p
    v.2.push16 v.1

/-- The low byte of the status register with given bits 5, 3 and 1, which `LAHF` leaves undefined (R319,
log entry 2). -/
def Flags.low8 (f : Flags) (b5 b3 b1 : Bool) : Byte :=
  BitVec.ofBool f.sf ++ BitVec.ofBool f.zf ++ BitVec.ofBool b5 ++ BitVec.ofBool f.af ++ BitVec.ofBool b3 ++
    BitVec.ofBool f.pf ++ BitVec.ofBool b1 ++ BitVec.ofBool f.cf

/-- `PUSH ES` (R312). -/
def execPushEs (s : State) : Result := .next (s.push16 (s.segReg .es))

/-- `PUSH CS` (R312). -/
def execPushCs (s : State) : Result := .next (s.push16 (s.segReg .cs))

/-- `PUSH SS` (R312). -/
def execPushSs (s : State) : Result := .next (s.push16 (s.segReg .ss))

/-- `PUSH DS` (R312). -/
def execPushDs (s : State) : Result := .next (s.push16 (s.segReg .ds))

/-- `POP ES` (R313). -/
def execPopEs (s : State) : Result :=
  let v := s.pop16
  .next (v.2.loadSeg .es v.1)

/-- `POP SS` (R313). -/
def execPopSs (s : State) : Result :=
  let v := s.pop16
  .next (v.2.loadSeg .ss v.1)

/-- `POP DS` (R313). -/
def execPopDs (s : State) : Result :=
  let v := s.pop16
  .next (v.2.loadSeg .ds v.1)

/-- `PUSH r16` (R312). -/
def execPushR16 (r : Reg16) (s : State) : Result := .next (s.pushOperand (.reg r))

/-- `PUSH r/m16` (R312). -/
def execPushRm16 (e : RM Reg16) (s : State) : Result := .next (s.pushOperand (s.place e))

/-- `POP r16` (R313). -/
def execPopR16 (r : Reg16) (s : State) : Result :=
  let v := s.pop16
  .next (v.2.setReg16 r v.1)

/-- `POP r/m16` (R313). -/
def execPopRm16 (e : RM Reg16) (s : State) : Result :=
  let v := s.pop16
  .next (v.2.put16 (s.place e) v.1)

/-- `MOV r/m8, r8` (R311). -/
def execMovRm8R8 (e : RM Reg8) (r : Reg8) (s : State) : Result := .next (s.put8 (s.place e) (s.reg8 r))

/-- `MOV r/m16, r16` (R311). -/
def execMovRm16R16 (e : RM Reg16) (r : Reg16) (s : State) : Result := .next (s.put16 (s.place e) (s.reg16 r))

/-- `MOV r8, r/m8` (R311). -/
def execMovR8Rm8 (r : Reg8) (e : RM Reg8) (s : State) : Result :=
  let v := s.get8 (s.place e)
  .next (v.2.setReg8 r v.1)

/-- `MOV r16, r/m16` (R311). -/
def execMovR16Rm16 (r : Reg16) (e : RM Reg16) (s : State) : Result :=
  let v := s.get16 (s.place e)
  .next (v.2.setReg16 r v.1)

/-- `MOV r/m16, sreg` (R311). -/
def execMovRm16Sreg (e : RM Reg16) (g : SegReg) (s : State) : Result := .next (s.put16 (s.place e) (s.segReg g))

/-- `MOV ES, r/m16` (R311). -/
def execMovEsRm16 (e : RM Reg16) (s : State) : Result :=
  let v := s.get16 (s.place e)
  .next (v.2.loadSeg .es v.1)

/-- `MOV SS, r/m16` (R311). -/
def execMovSsRm16 (e : RM Reg16) (s : State) : Result :=
  let v := s.get16 (s.place e)
  .next (v.2.loadSeg .ss v.1)

/-- `MOV DS, r/m16` (R311). -/
def execMovDsRm16 (e : RM Reg16) (s : State) : Result :=
  let v := s.get16 (s.place e)
  .next (v.2.loadSeg .ds v.1)

/-- `MOV AL, moffs16` (R311). -/
def execMovAlMoffs (a : Word) (s : State) : Result :=
  let v := s.readMem8 (s.overridden .ds) a
  .next (v.2.setReg8 .al v.1)

/-- `MOV AX, moffs16` (R311). -/
def execMovAxMoffs (a : Word) (s : State) : Result :=
  let v := s.readMem16 (s.overridden .ds) a
  .next (v.2.setReg16 .ax v.1)

/-- `MOV moffs16, AL` (R311). -/
def execMovMoffsAl (a : Word) (s : State) : Result := .next (s.writeMem8 (s.overridden .ds) a (s.reg8 .al))

/-- `MOV moffs16, AX` (R311). -/
def execMovMoffsAx (a : Word) (s : State) : Result := .next (s.writeMem16 (s.overridden .ds) a (s.reg16 .ax))

/-- `MOV r8, imm8` (R311). -/
def execMovR8Imm8 (r : Reg8) (v : Byte) (s : State) : Result := .next (s.setReg8 r v)

/-- `MOV r16, imm16` (R311). -/
def execMovR16Imm16 (r : Reg16) (v : Word) (s : State) : Result := .next (s.setReg16 r v)

/-- `MOV r/m8, imm8` (R311). -/
def execMovRm8Imm8 (e : RM Reg8) (v : Byte) (s : State) : Result := .next (s.put8 (s.place e) v)

/-- `MOV r/m16, imm16` (R311). -/
def execMovRm16Imm16 (e : RM Reg16) (v : Word) (s : State) : Result := .next (s.put16 (s.place e) v)

/-- `XCHG r8, r/m8` (R314). -/
def execXchgR8Rm8 (r : Reg8) (e : RM Reg8) (s : State) : Result :=
  let t := s.get8 (s.place e)
  .next ((t.2.put8 (s.place e) (s.reg8 r)).setReg8 r t.1)

/-- `XCHG r16, r/m16` (R314). -/
def execXchgR16Rm16 (r : Reg16) (e : RM Reg16) (s : State) : Result :=
  let t := s.get16 (s.place e)
  .next ((t.2.put16 (s.place e) (s.reg16 r)).setReg16 r t.1)

/-- `XCHG AX, r16` (R314). -/
def execXchgAxR16 (r : Reg16) (s : State) : Result := .next ((s.setReg16 .ax (s.reg16 r)).setReg16 r (s.reg16 .ax))

/-- `XLAT` (R315). -/
def execXlat (s : State) : Result :=
  let v := s.readMem8 (s.overridden .ds) (s.reg16 .bx + (s.reg8 .al).setWidth 16)
  .next (v.2.setReg8 .al v.1)

/-- `LEA r16, m` (R316). -/
def execLea (r : Reg16) (m : MemOp) (s : State) : Result := .next (s.setReg16 r (s.ea m))

/-- `LDS r16, m16:16` (R317). -/
def execLds (r : Reg16) (m : MemOp) (s : State) : Result :=
  let p := s.readFar m
  .next ((p.2.setReg16 r p.1.1).setSegReg .ds p.1.2)

/-- `LES r16, m16:16` (R318). -/
def execLes (r : Reg16) (m : MemOp) (s : State) : Result :=
  let p := s.readFar m
  .next ((p.2.setReg16 r p.1.1).setSegReg .es p.1.2)

/-- `LAHF` (R319). -/
def execLahf (s : State) : Result :=
  let a := s.drawBit
  let b := a.2.drawBit
  let c := b.2.drawBit
  .next (c.2.setReg8 .ah (s.flags.low8 a.1 b.1 c.1))

/-- `SAHF` (R320). -/
def execSahf (s : State) : Result :=
  let v := s.reg8 .ah
  .next (s.setFlags { s.flags with sf := v.getLsbD 7, zf := v.getLsbD 6, af := v.getLsbD 4, pf := v.getLsbD 2,
                                   cf := v.getLsbD 0 })

/-- `PUSHF` (R321). -/
def execPushf (s : State) : Result := .next (s.push16 s.flags.image)

/-- `POPF` (R324). -/
def execPopf (s : State) : Result :=
  let v := s.pop16
  .next (v.2.setFlags (Flags.ofImage v.1))

/-- `IN AL, imm8` (R322). -/
def execInAlImm8 (p : Byte) (s : State) : Result :=
  let v := s.ioRead8 (p.setWidth 16)
  .next (v.2.setReg8 .al v.1)

/-- `IN AX, imm8` (R322). -/
def execInAxImm8 (p : Byte) (s : State) : Result :=
  let v := s.ioRead16 (p.setWidth 16)
  .next (v.2.setReg16 .ax v.1)

/-- `IN AL, DX` (R322). -/
def execInAlDx (s : State) : Result :=
  let v := s.ioRead8 (s.reg16 .dx)
  .next (v.2.setReg8 .al v.1)

/-- `IN AX, DX` (R322). -/
def execInAxDx (s : State) : Result :=
  if s.reg16 .dx = 0xFFFF then .refused .portWrap
  else
    let v := s.ioRead16 (s.reg16 .dx)
    .next (v.2.setReg16 .ax v.1)

/-- `OUT imm8, AL` (R323). -/
def execOutImm8Al (p : Byte) (s : State) : Result := .next (s.ioWrite8 (p.setWidth 16) (s.reg8 .al))

/-- `OUT imm8, AX` (R323). -/
def execOutImm8Ax (p : Byte) (s : State) : Result := .next (s.ioWrite16 (p.setWidth 16) (s.reg16 .ax))

/-- `OUT DX, AL` (R323). -/
def execOutDxAl (s : State) : Result := .next (s.ioWrite8 (s.reg16 .dx) (s.reg8 .al))

/-- `OUT DX, AX` (R323). -/
def execOutDxAx (s : State) : Result :=
  if s.reg16 .dx = 0xFFFF then .refused .portWrap
  else .next (s.ioWrite16 (s.reg16 .dx) (s.reg16 .ax))

end Sys2Proof.Machine
end

