-- ==== Sys2Proof/Machine/Logic.lean ====
section
/-! DEFINITION. The meanings of the logic, shift and rotate instructions (`43_logic_shift.md`). AF is undefined after
`AND`, `OR`, `XOR` and `TEST` (R400). -/

namespace Sys2Proof.Machine

/-- `OR r/m8, r8` (R411). -/
def execOrRm8R8 (e : RM Reg8) (r : Reg8) (s : State) : Result := .next ((s.aluTo8 Alu.or e (s.reg8 r)).undef [.af])

/-- `OR r/m16, r16` (R411). -/
def execOrRm16R16 (e : RM Reg16) (r : Reg16) (s : State) : Result :=
  .next ((s.aluTo16 Alu.or e (s.reg16 r)).undef [.af])

/-- `OR r8, r/m8` (R411). -/
def execOrR8Rm8 (r : Reg8) (e : RM Reg8) (s : State) : Result := .next ((s.aluFrom8 Alu.or r e).undef [.af])

/-- `OR r16, r/m16` (R411). -/
def execOrR16Rm16 (r : Reg16) (e : RM Reg16) (s : State) : Result := .next ((s.aluFrom16 Alu.or r e).undef [.af])

/-- `OR AL, imm8` (R411). -/
def execOrAlImm8 (v : Byte) (s : State) : Result := .next ((s.aluTo8 Alu.or (.reg .al) v).undef [.af])

/-- `OR AX, imm16` (R411). -/
def execOrAxImm16 (v : Word) (s : State) : Result := .next ((s.aluTo16 Alu.or (.reg .ax) v).undef [.af])

/-- `AND r/m8, r8` (R409). -/
def execAndRm8R8 (e : RM Reg8) (r : Reg8) (s : State) : Result := .next ((s.aluTo8 Alu.and e (s.reg8 r)).undef [.af])

/-- `AND r/m16, r16` (R409). -/
def execAndRm16R16 (e : RM Reg16) (r : Reg16) (s : State) : Result :=
  .next ((s.aluTo16 Alu.and e (s.reg16 r)).undef [.af])

/-- `AND r8, r/m8` (R409). -/
def execAndR8Rm8 (r : Reg8) (e : RM Reg8) (s : State) : Result := .next ((s.aluFrom8 Alu.and r e).undef [.af])

/-- `AND r16, r/m16` (R409). -/
def execAndR16Rm16 (r : Reg16) (e : RM Reg16) (s : State) : Result := .next ((s.aluFrom16 Alu.and r e).undef [.af])

/-- `AND AL, imm8` (R409). -/
def execAndAlImm8 (v : Byte) (s : State) : Result := .next ((s.aluTo8 Alu.and (.reg .al) v).undef [.af])

/-- `AND AX, imm16` (R409). -/
def execAndAxImm16 (v : Word) (s : State) : Result := .next ((s.aluTo16 Alu.and (.reg .ax) v).undef [.af])

/-- `XOR r/m8, r8` (R412). -/
def execXorRm8R8 (e : RM Reg8) (r : Reg8) (s : State) : Result := .next ((s.aluTo8 Alu.xor e (s.reg8 r)).undef [.af])

/-- `XOR r/m16, r16` (R412). -/
def execXorRm16R16 (e : RM Reg16) (r : Reg16) (s : State) : Result :=
  .next ((s.aluTo16 Alu.xor e (s.reg16 r)).undef [.af])

/-- `XOR r8, r/m8` (R412). -/
def execXorR8Rm8 (r : Reg8) (e : RM Reg8) (s : State) : Result := .next ((s.aluFrom8 Alu.xor r e).undef [.af])

/-- `XOR r16, r/m16` (R412). -/
def execXorR16Rm16 (r : Reg16) (e : RM Reg16) (s : State) : Result := .next ((s.aluFrom16 Alu.xor r e).undef [.af])

/-- `XOR AL, imm8` (R412). -/
def execXorAlImm8 (v : Byte) (s : State) : Result := .next ((s.aluTo8 Alu.xor (.reg .al) v).undef [.af])

/-- `XOR AX, imm16` (R412). -/
def execXorAxImm16 (v : Word) (s : State) : Result := .next ((s.aluTo16 Alu.xor (.reg .ax) v).undef [.af])

/-- `OR r/m8, imm8` (R411). -/
def execOrRm8Imm8 (e : RM Reg8) (v : Byte) (s : State) : Result := .next ((s.aluTo8 Alu.or e v).undef [.af])

/-- `AND r/m8, imm8` (R409). -/
def execAndRm8Imm8 (e : RM Reg8) (v : Byte) (s : State) : Result := .next ((s.aluTo8 Alu.and e v).undef [.af])

/-- `XOR r/m8, imm8` (R412). -/
def execXorRm8Imm8 (e : RM Reg8) (v : Byte) (s : State) : Result := .next ((s.aluTo8 Alu.xor e v).undef [.af])

/-- `OR r/m16, imm16` (R411). -/
def execOrRm16Imm16 (e : RM Reg16) (v : Word) (s : State) : Result := .next ((s.aluTo16 Alu.or e v).undef [.af])

/-- `AND r/m16, imm16` (R409). -/
def execAndRm16Imm16 (e : RM Reg16) (v : Word) (s : State) : Result := .next ((s.aluTo16 Alu.and e v).undef [.af])

/-- `XOR r/m16, imm16` (R412). -/
def execXorRm16Imm16 (e : RM Reg16) (v : Word) (s : State) : Result := .next ((s.aluTo16 Alu.xor e v).undef [.af])

/-- `NOT r/m8` (R401). -/
def execNotRm8 (e : RM Reg8) (s : State) : Result := .next (s.update8 (s.place e) Alu1.not)

/-- `NOT r/m16` (R401). -/
def execNotRm16 (e : RM Reg16) (s : State) : Result := .next (s.update16 (s.place e) Alu1.not)

/-- `TEST r/m8, r8` (R410). -/
def execTestRm8R8 (e : RM Reg8) (r : Reg8) (s : State) : Result :=
  .next ((s.testTo8 Alu.and e (s.reg8 r)).undef [.af])

/-- `TEST r/m16, r16` (R410). -/
def execTestRm16R16 (e : RM Reg16) (r : Reg16) (s : State) : Result :=
  .next ((s.testTo16 Alu.and e (s.reg16 r)).undef [.af])

/-- `TEST AL, imm8` (R410). -/
def execTestAlImm8 (v : Byte) (s : State) : Result := .next ((s.testTo8 Alu.and (.reg .al) v).undef [.af])

/-- `TEST AX, imm16` (R410). -/
def execTestAxImm16 (v : Word) (s : State) : Result := .next ((s.testTo16 Alu.and (.reg .ax) v).undef [.af])

/-- `TEST r/m8, imm8` (R410). -/
def execTestRm8Imm8 (e : RM Reg8) (v : Byte) (s : State) : Result := .next ((s.testTo8 Alu.and e v).undef [.af])

/-- `TEST r/m16, imm16` (R410). -/
def execTestRm16Imm16 (e : RM Reg16) (v : Word) (s : State) : Result := .next ((s.testTo16 Alu.and e v).undef [.af])

/-- `ROL r/m8, 1` (R405). -/
def execRolRm8One (e : RM Reg8) (s : State) : Result := .next (s.shift8 .rol e 1)

/-- `ROL r/m16, 1` (R405). -/
def execRolRm16One (e : RM Reg16) (s : State) : Result := .next (s.shift16 .rol e 1)

/-- `ROL r/m8, CL` (R405). -/
def execRolRm8Cl (e : RM Reg8) (s : State) : Result := .next (s.shift8 .rol e (s.reg8 .cl).toNat)

/-- `ROL r/m16, CL` (R405). -/
def execRolRm16Cl (e : RM Reg16) (s : State) : Result := .next (s.shift16 .rol e (s.reg8 .cl).toNat)

/-- `ROR r/m8, 1` (R406). -/
def execRorRm8One (e : RM Reg8) (s : State) : Result := .next (s.shift8 .ror e 1)

/-- `ROR r/m16, 1` (R406). -/
def execRorRm16One (e : RM Reg16) (s : State) : Result := .next (s.shift16 .ror e 1)

/-- `ROR r/m8, CL` (R406). -/
def execRorRm8Cl (e : RM Reg8) (s : State) : Result := .next (s.shift8 .ror e (s.reg8 .cl).toNat)

/-- `ROR r/m16, CL` (R406). -/
def execRorRm16Cl (e : RM Reg16) (s : State) : Result := .next (s.shift16 .ror e (s.reg8 .cl).toNat)

/-- `RCL r/m8, 1` (R407). -/
def execRclRm8One (e : RM Reg8) (s : State) : Result := .next (s.shift8 .rcl e 1)

/-- `RCL r/m16, 1` (R407). -/
def execRclRm16One (e : RM Reg16) (s : State) : Result := .next (s.shift16 .rcl e 1)

/-- `RCL r/m8, CL` (R407). -/
def execRclRm8Cl (e : RM Reg8) (s : State) : Result := .next (s.shift8 .rcl e (s.reg8 .cl).toNat)

/-- `RCL r/m16, CL` (R407). -/
def execRclRm16Cl (e : RM Reg16) (s : State) : Result := .next (s.shift16 .rcl e (s.reg8 .cl).toNat)

/-- `RCR r/m8, 1` (R408). -/
def execRcrRm8One (e : RM Reg8) (s : State) : Result := .next (s.shift8 .rcr e 1)

/-- `RCR r/m16, 1` (R408). -/
def execRcrRm16One (e : RM Reg16) (s : State) : Result := .next (s.shift16 .rcr e 1)

/-- `RCR r/m8, CL` (R408). -/
def execRcrRm8Cl (e : RM Reg8) (s : State) : Result := .next (s.shift8 .rcr e (s.reg8 .cl).toNat)

/-- `RCR r/m16, CL` (R408). -/
def execRcrRm16Cl (e : RM Reg16) (s : State) : Result := .next (s.shift16 .rcr e (s.reg8 .cl).toNat)

/-- `SHL/SAL r/m8, 1` (R402). -/
def execShlRm8One (e : RM Reg8) (s : State) : Result := .next (s.shift8 .shl e 1)

/-- `SHL/SAL r/m16, 1` (R402). -/
def execShlRm16One (e : RM Reg16) (s : State) : Result := .next (s.shift16 .shl e 1)

/-- `SHL/SAL r/m8, CL` (R402). -/
def execShlRm8Cl (e : RM Reg8) (s : State) : Result := .next (s.shift8 .shl e (s.reg8 .cl).toNat)

/-- `SHL/SAL r/m16, CL` (R402). -/
def execShlRm16Cl (e : RM Reg16) (s : State) : Result := .next (s.shift16 .shl e (s.reg8 .cl).toNat)

/-- `SHR r/m8, 1` (R403). -/
def execShrRm8One (e : RM Reg8) (s : State) : Result := .next (s.shift8 .shr e 1)

/-- `SHR r/m16, 1` (R403). -/
def execShrRm16One (e : RM Reg16) (s : State) : Result := .next (s.shift16 .shr e 1)

/-- `SHR r/m8, CL` (R403). -/
def execShrRm8Cl (e : RM Reg8) (s : State) : Result := .next (s.shift8 .shr e (s.reg8 .cl).toNat)

/-- `SHR r/m16, CL` (R403). -/
def execShrRm16Cl (e : RM Reg16) (s : State) : Result := .next (s.shift16 .shr e (s.reg8 .cl).toNat)

/-- `SAR r/m8, 1` (R404). -/
def execSarRm8One (e : RM Reg8) (s : State) : Result := .next (s.shift8 .sar e 1)

/-- `SAR r/m16, 1` (R404). -/
def execSarRm16One (e : RM Reg16) (s : State) : Result := .next (s.shift16 .sar e 1)

/-- `SAR r/m8, CL` (R404). -/
def execSarRm8Cl (e : RM Reg8) (s : State) : Result := .next (s.shift8 .sar e (s.reg8 .cl).toNat)

/-- `SAR r/m16, CL` (R404). -/
def execSarRm16Cl (e : RM Reg16) (s : State) : Result := .next (s.shift16 .sar e (s.reg8 .cl).toNat)

end Sys2Proof.Machine
end

