-- ==== Sys2Proof/Machine/Processor.lean ====
section
/-! DEFINITION. The meanings of the processor-control instructions and prefixes (`46_processor_control.md`,
`40_source_named_instructions.md`), and the refusal of the encodings Intel does not document (R275). A prefix arms what
it says for the instruction that follows it (log entry 8). -/

namespace Sys2Proof.Machine

/-- `ESC opcode6, r/m`: a memory operand is read and discarded, a register operand does nothing
(R512, log entry 32). -/
def execEsc (_x : BitVec 6) (e : RM Reg16) (s : State) : Result :=
  match e with
  | .reg _ => .next s
  | .mem m => .next (s.readMem16 (s.segOf m) (s.ea m)).2

/-- Every encoding Intel does not document: refused by name (R275, U1, log entry 10). -/
def execNotUsed (op : Byte) (next : Byte) (_s : State) : Result := .refused (.undocumentedEncoding op next)

/-- `CLC` (R500). -/
def execClc (s : State) : Result := .next (s.setFlags { s.flags with cf := false })

/-- `CMC` (R501). -/
def execCmc (s : State) : Result := .next (s.setFlags { s.flags with cf := !s.flags.cf })

/-- `STC` (R502). -/
def execStc (s : State) : Result := .next (s.setFlags { s.flags with cf := true })

/-- `CLD` (R503). -/
def execCld (s : State) : Result := .next (s.setFlags { s.flags with df := false })

/-- `STD` (R504). -/
def execStd (s : State) : Result := .next (s.setFlags { s.flags with df := true })

/-- `CLI` (R505). -/
def execCli (s : State) : Result := .next (s.setFlags { s.flags with ifl := false })

/-- `STI`: IF is set, and INTR is recognised only after the next instruction (R506, R528 (c), log entry 29). -/
def execSti (s : State) : Result := .next { s.setFlags { s.flags with ifl := true } with shadow := .intr }

/-- `NOP` (R507). -/
def execNop (s : State) : Result := .next s

/-- `ES: prefix` (R508). -/
def execEsOverride (s : State) : Result := .next { s with armed := { s.armed with pending := true, seg := some .es } }

/-- `CS: prefix` (R508). -/
def execCsOverride (s : State) : Result := .next { s with armed := { s.armed with pending := true, seg := some .cs } }

/-- `SS: prefix` (R508). -/
def execSsOverride (s : State) : Result := .next { s with armed := { s.armed with pending := true, seg := some .ss } }

/-- `DS: prefix` (R508). -/
def execDsOverride (s : State) : Result := .next { s with armed := { s.armed with pending := true, seg := some .ds } }

/-- `LOCK` prefix: the next instruction runs with #LOCK active (R300). -/
def execLock (s : State) : Result := .next { s with locked := true, armed := { s.armed with pending := true } }

/-- `WAIT`: completes when #TEST is 0; otherwise it goes on waiting (R301, log entry 25). -/
def execWait (s : State) : Result := if s.pins.test then .next { s with inProgress := some .wait } else .next s

/-- `HLT`: the halt cycle, then the halt state, in which no lock is left (R302, log entry 50). -/
def execHlt (s : State) : Result := .next { s.haltCycle with halted := true }

end Sys2Proof.Machine
end

