-- ==== Sys2Proof/Machine/Strings.lean ====
section
/-! DEFINITION. The meanings of the string instructions and of the repeat prefixes (`44_string.md`). Under a repeat
prefix one call is one iteration, and `inProgress` says that more are to come, so that an interrupt can be recognised
between two of them (R430, R528 (d)). -/

namespace Sys2Proof.Machine

/-- An index register advanced past an element of `n` bytes in the direction of DF (R431). -/
def State.advance (s : State) (r : Reg16) (n : Word) : State :=
  s.setReg16 r (if s.flags.df then s.reg16 r - n else s.reg16 r + n)

/-- The value of ZF for which a repeat prefix continues a comparison (R430). -/
def repeatsWhile : Rep → Bool
  | .repne => false
  | .rep => true

/-- The prefixed string instruction `i`: nothing with CX = 0; otherwise one iteration, after which it goes on unless
CX has reached 0 or a comparison (`compares`) has left ZF different from `z` (R430). -/
def State.repeated (s : State) (i : Instr) (compares : Bool) (iteration : State → State) : Result :=
  match s.armed.rep with
  | none => .next (iteration s)
  | some z =>
    if s.reg16 .cx = 0 then .next s
    else
      let t := (iteration s).decCx
      if t.reg16 .cx = 0 || (compares && t.flags.zf != repeatsWhile z) then .next t
      else .next { t with inProgress := some i }

/-- One `MOVSB` (R432). -/
def State.movs8 (s : State) : State :=
  let v := s.readMem8 (s.overridden .ds) (s.reg16 .si)
  ((v.2.writeMem8 .es (v.2.reg16 .di) v.1).advance .si 1).advance .di 1

/-- One `MOVSW` (R432). -/
def State.movs16 (s : State) : State :=
  let v := s.readMem16 (s.overridden .ds) (s.reg16 .si)
  ((v.2.writeMem16 .es (v.2.reg16 .di) v.1).advance .si 2).advance .di 2

/-- One `CMPSB`: the element at SI minus the element at DI (R433). -/
def State.cmps8 (s : State) : State :=
  let a := s.readMem8 (s.overridden .ds) (s.reg16 .si)
  let b := a.2.readMem8 .es (a.2.reg16 .di)
  ((b.2.setFlags (b.2.flags.diff a.1 b.1 false)).advance .si 1).advance .di 1

/-- One `CMPSW` (R433). -/
def State.cmps16 (s : State) : State :=
  let a := s.readMem16 (s.overridden .ds) (s.reg16 .si)
  let b := a.2.readMem16 .es (a.2.reg16 .di)
  ((b.2.setFlags (b.2.flags.diff a.1 b.1 false)).advance .si 2).advance .di 2

/-- One `SCASB` (R434). -/
def State.scas8 (s : State) : State :=
  let b := s.readMem8 .es (s.reg16 .di)
  (b.2.setFlags (b.2.flags.diff (b.2.reg8 .al) b.1 false)).advance .di 1

/-- One `SCASW` (R434). -/
def State.scas16 (s : State) : State :=
  let b := s.readMem16 .es (s.reg16 .di)
  (b.2.setFlags (b.2.flags.diff (b.2.reg16 .ax) b.1 false)).advance .di 2

/-- One `LODSB` (R435). -/
def State.lods8 (s : State) : State :=
  let v := s.readMem8 (s.overridden .ds) (s.reg16 .si)
  (v.2.setReg8 .al v.1).advance .si 1

/-- One `LODSW` (R435). -/
def State.lods16 (s : State) : State :=
  let v := s.readMem16 (s.overridden .ds) (s.reg16 .si)
  (v.2.setReg16 .ax v.1).advance .si 2

/-- One `STOSB` (R436). -/
def State.stos8 (s : State) : State := (s.writeMem8 .es (s.reg16 .di) (s.reg8 .al)).advance .di 1

/-- One `STOSW` (R436). -/
def State.stos16 (s : State) : State := (s.writeMem16 .es (s.reg16 .di) (s.reg16 .ax)).advance .di 2

/-- `MOVSB` (R432). -/
def execMovsb (s : State) : Result := s.repeated .movsb false State.movs8

/-- `MOVSW` (R432). -/
def execMovsw (s : State) : Result := s.repeated .movsw false State.movs16

/-- `CMPSB` (R433). -/
def execCmpsb (s : State) : Result := s.repeated .cmpsb true State.cmps8

/-- `CMPSW` (R433). -/
def execCmpsw (s : State) : Result := s.repeated .cmpsw true State.cmps16

/-- `STOSB` (R436). -/
def execStosb (s : State) : Result := s.repeated .stosb false State.stos8

/-- `STOSW` (R436). -/
def execStosw (s : State) : Result := s.repeated .stosw false State.stos16

/-- `LODSB` (R435). -/
def execLodsb (s : State) : Result := s.repeated .lodsb false State.lods8

/-- `LODSW` (R435). -/
def execLodsw (s : State) : Result := s.repeated .lodsw false State.lods16

/-- `SCASB` (R434). -/
def execScasb (s : State) : Result := s.repeated .scasb true State.scas8

/-- `SCASW` (R434). -/
def execScasw (s : State) : Result := s.repeated .scasw true State.scas16

/-- `REPNE/REPNZ prefix` (R430). -/
def execRepne (s : State) : Result := .next { s with armed := { s.armed with pending := true, rep := some .repne } }

/-- `REP/REPE/REPZ prefix` (R430). -/
def execRep (s : State) : Result := .next { s with armed := { s.armed with pending := true, rep := some .rep } }

end Sys2Proof.Machine
end

