-- ==== Sys2Proof/Machine/Dispatch.lean ====
section
/-! DEFINITION. Each instruction to its meaning, one direct call an arm. -/

namespace Sys2Proof.Machine

def exec (i : Instr) (s : State) : Host.Outcome State Fault Refusal :=
  match i with
  -- Arithmetic
  | .addRm8R8 e r => Sys2Proof.Machine.execAddRm8R8 e r s
  | .addRm16R16 e r => Sys2Proof.Machine.execAddRm16R16 e r s
  | .addR8Rm8 r e => Sys2Proof.Machine.execAddR8Rm8 r e s
  | .addR16Rm16 r e => Sys2Proof.Machine.execAddR16Rm16 r e s
  | .addAlImm8 v => Sys2Proof.Machine.execAddAlImm8 v s
  | .addAxImm16 v => Sys2Proof.Machine.execAddAxImm16 v s
  -- Logic
  | .orRm8R8 e r => Sys2Proof.Machine.execOrRm8R8 e r s
  | .orRm16R16 e r => Sys2Proof.Machine.execOrRm16R16 e r s
  | .orR8Rm8 r e => Sys2Proof.Machine.execOrR8Rm8 r e s
  | .orR16Rm16 r e => Sys2Proof.Machine.execOrR16Rm16 r e s
  | .orAlImm8 v => Sys2Proof.Machine.execOrAlImm8 v s
  | .orAxImm16 v => Sys2Proof.Machine.execOrAxImm16 v s
  -- Arithmetic
  | .adcRm8R8 e r => Sys2Proof.Machine.execAdcRm8R8 e r s
  | .adcRm16R16 e r => Sys2Proof.Machine.execAdcRm16R16 e r s
  | .adcR8Rm8 r e => Sys2Proof.Machine.execAdcR8Rm8 r e s
  | .adcR16Rm16 r e => Sys2Proof.Machine.execAdcR16Rm16 r e s
  | .adcAlImm8 v => Sys2Proof.Machine.execAdcAlImm8 v s
  | .adcAxImm16 v => Sys2Proof.Machine.execAdcAxImm16 v s
  | .sbbRm8R8 e r => Sys2Proof.Machine.execSbbRm8R8 e r s
  | .sbbRm16R16 e r => Sys2Proof.Machine.execSbbRm16R16 e r s
  | .sbbR8Rm8 r e => Sys2Proof.Machine.execSbbR8Rm8 r e s
  | .sbbR16Rm16 r e => Sys2Proof.Machine.execSbbR16Rm16 r e s
  | .sbbAlImm8 v => Sys2Proof.Machine.execSbbAlImm8 v s
  | .sbbAxImm16 v => Sys2Proof.Machine.execSbbAxImm16 v s
  -- Logic
  | .andRm8R8 e r => Sys2Proof.Machine.execAndRm8R8 e r s
  | .andRm16R16 e r => Sys2Proof.Machine.execAndRm16R16 e r s
  | .andR8Rm8 r e => Sys2Proof.Machine.execAndR8Rm8 r e s
  | .andR16Rm16 r e => Sys2Proof.Machine.execAndR16Rm16 r e s
  | .andAlImm8 v => Sys2Proof.Machine.execAndAlImm8 v s
  | .andAxImm16 v => Sys2Proof.Machine.execAndAxImm16 v s
  -- Arithmetic
  | .subRm8R8 e r => Sys2Proof.Machine.execSubRm8R8 e r s
  | .subRm16R16 e r => Sys2Proof.Machine.execSubRm16R16 e r s
  | .subR8Rm8 r e => Sys2Proof.Machine.execSubR8Rm8 r e s
  | .subR16Rm16 r e => Sys2Proof.Machine.execSubR16Rm16 r e s
  | .subAlImm8 v => Sys2Proof.Machine.execSubAlImm8 v s
  | .subAxImm16 v => Sys2Proof.Machine.execSubAxImm16 v s
  -- Logic
  | .xorRm8R8 e r => Sys2Proof.Machine.execXorRm8R8 e r s
  | .xorRm16R16 e r => Sys2Proof.Machine.execXorRm16R16 e r s
  | .xorR8Rm8 r e => Sys2Proof.Machine.execXorR8Rm8 r e s
  | .xorR16Rm16 r e => Sys2Proof.Machine.execXorR16Rm16 r e s
  | .xorAlImm8 v => Sys2Proof.Machine.execXorAlImm8 v s
  | .xorAxImm16 v => Sys2Proof.Machine.execXorAxImm16 v s
  -- Arithmetic
  | .cmpRm8R8 e r => Sys2Proof.Machine.execCmpRm8R8 e r s
  | .cmpRm16R16 e r => Sys2Proof.Machine.execCmpRm16R16 e r s
  | .cmpR8Rm8 r e => Sys2Proof.Machine.execCmpR8Rm8 r e s
  | .cmpR16Rm16 r e => Sys2Proof.Machine.execCmpR16Rm16 r e s
  | .cmpAlImm8 v => Sys2Proof.Machine.execCmpAlImm8 v s
  | .cmpAxImm16 v => Sys2Proof.Machine.execCmpAxImm16 v s
  | .addRm8Imm8 e v => Sys2Proof.Machine.execAddRm8Imm8 e v s
  -- Logic
  | .orRm8Imm8 e v => Sys2Proof.Machine.execOrRm8Imm8 e v s
  -- Arithmetic
  | .adcRm8Imm8 e v => Sys2Proof.Machine.execAdcRm8Imm8 e v s
  | .sbbRm8Imm8 e v => Sys2Proof.Machine.execSbbRm8Imm8 e v s
  -- Logic
  | .andRm8Imm8 e v => Sys2Proof.Machine.execAndRm8Imm8 e v s
  -- Arithmetic
  | .subRm8Imm8 e v => Sys2Proof.Machine.execSubRm8Imm8 e v s
  -- Logic
  | .xorRm8Imm8 e v => Sys2Proof.Machine.execXorRm8Imm8 e v s
  -- Arithmetic
  | .cmpRm8Imm8 e v => Sys2Proof.Machine.execCmpRm8Imm8 e v s
  | .addRm16Imm16 e v => Sys2Proof.Machine.execAddRm16Imm16 e v s
  -- Logic
  | .orRm16Imm16 e v => Sys2Proof.Machine.execOrRm16Imm16 e v s
  -- Arithmetic
  | .adcRm16Imm16 e v => Sys2Proof.Machine.execAdcRm16Imm16 e v s
  | .sbbRm16Imm16 e v => Sys2Proof.Machine.execSbbRm16Imm16 e v s
  -- Logic
  | .andRm16Imm16 e v => Sys2Proof.Machine.execAndRm16Imm16 e v s
  -- Arithmetic
  | .subRm16Imm16 e v => Sys2Proof.Machine.execSubRm16Imm16 e v s
  -- Logic
  | .xorRm16Imm16 e v => Sys2Proof.Machine.execXorRm16Imm16 e v s
  -- Arithmetic
  | .cmpRm16Imm16 e v => Sys2Proof.Machine.execCmpRm16Imm16 e v s
  | .addRm8Imm8Alt e v => Sys2Proof.Machine.execAddRm8Imm8Alt e v s
  | .adcRm8Imm8Alt e v => Sys2Proof.Machine.execAdcRm8Imm8Alt e v s
  | .sbbRm8Imm8Alt e v => Sys2Proof.Machine.execSbbRm8Imm8Alt e v s
  | .subRm8Imm8Alt e v => Sys2Proof.Machine.execSubRm8Imm8Alt e v s
  | .cmpRm8Imm8Alt e v => Sys2Proof.Machine.execCmpRm8Imm8Alt e v s
  | .addRm16Simm8 e v => Sys2Proof.Machine.execAddRm16Simm8 e v s
  | .adcRm16Simm8 e v => Sys2Proof.Machine.execAdcRm16Simm8 e v s
  | .sbbRm16Simm8 e v => Sys2Proof.Machine.execSbbRm16Simm8 e v s
  | .subRm16Simm8 e v => Sys2Proof.Machine.execSubRm16Simm8 e v s
  | .cmpRm16Simm8 e v => Sys2Proof.Machine.execCmpRm16Simm8 e v s
  -- DataTransfer
  | .pushEs => Sys2Proof.Machine.execPushEs s
  | .pushCs => Sys2Proof.Machine.execPushCs s
  | .pushSs => Sys2Proof.Machine.execPushSs s
  | .pushDs => Sys2Proof.Machine.execPushDs s
  | .popEs => Sys2Proof.Machine.execPopEs s
  | .popSs => Sys2Proof.Machine.execPopSs s
  | .popDs => Sys2Proof.Machine.execPopDs s
  | .pushR16 r => Sys2Proof.Machine.execPushR16 r s
  | .pushRm16 e => Sys2Proof.Machine.execPushRm16 e s
  | .popR16 r => Sys2Proof.Machine.execPopR16 r s
  | .popRm16 e => Sys2Proof.Machine.execPopRm16 e s
  | .movRm8R8 e r => Sys2Proof.Machine.execMovRm8R8 e r s
  | .movRm16R16 e r => Sys2Proof.Machine.execMovRm16R16 e r s
  | .movR8Rm8 r e => Sys2Proof.Machine.execMovR8Rm8 r e s
  | .movR16Rm16 r e => Sys2Proof.Machine.execMovR16Rm16 r e s
  | .movRm16Sreg e g => Sys2Proof.Machine.execMovRm16Sreg e g s
  | .movEsRm16 e => Sys2Proof.Machine.execMovEsRm16 e s
  | .movSsRm16 e => Sys2Proof.Machine.execMovSsRm16 e s
  | .movDsRm16 e => Sys2Proof.Machine.execMovDsRm16 e s
  | .movAlMoffs a => Sys2Proof.Machine.execMovAlMoffs a s
  | .movAxMoffs a => Sys2Proof.Machine.execMovAxMoffs a s
  | .movMoffsAl a => Sys2Proof.Machine.execMovMoffsAl a s
  | .movMoffsAx a => Sys2Proof.Machine.execMovMoffsAx a s
  | .movR8Imm8 r v => Sys2Proof.Machine.execMovR8Imm8 r v s
  | .movR16Imm16 r v => Sys2Proof.Machine.execMovR16Imm16 r v s
  | .movRm8Imm8 e v => Sys2Proof.Machine.execMovRm8Imm8 e v s
  | .movRm16Imm16 e v => Sys2Proof.Machine.execMovRm16Imm16 e v s
  | .xchgR8Rm8 r e => Sys2Proof.Machine.execXchgR8Rm8 r e s
  | .xchgR16Rm16 r e => Sys2Proof.Machine.execXchgR16Rm16 r e s
  | .xchgAxR16 r => Sys2Proof.Machine.execXchgAxR16 r s
  | .xlat => Sys2Proof.Machine.execXlat s
  | .lea r m => Sys2Proof.Machine.execLea r m s
  | .lds r m => Sys2Proof.Machine.execLds r m s
  | .les r m => Sys2Proof.Machine.execLes r m s
  | .lahf => Sys2Proof.Machine.execLahf s
  | .sahf => Sys2Proof.Machine.execSahf s
  | .pushf => Sys2Proof.Machine.execPushf s
  | .popf => Sys2Proof.Machine.execPopf s
  | .inAlImm8 p => Sys2Proof.Machine.execInAlImm8 p s
  | .inAxImm8 p => Sys2Proof.Machine.execInAxImm8 p s
  | .inAlDx => Sys2Proof.Machine.execInAlDx s
  | .inAxDx => Sys2Proof.Machine.execInAxDx s
  | .outImm8Al p => Sys2Proof.Machine.execOutImm8Al p s
  | .outImm8Ax p => Sys2Proof.Machine.execOutImm8Ax p s
  | .outDxAl => Sys2Proof.Machine.execOutDxAl s
  | .outDxAx => Sys2Proof.Machine.execOutDxAx s
  -- Arithmetic
  | .incR16 r => Sys2Proof.Machine.execIncR16 r s
  | .incRm8 e => Sys2Proof.Machine.execIncRm8 e s
  | .incRm16 e => Sys2Proof.Machine.execIncRm16 e s
  | .decR16 r => Sys2Proof.Machine.execDecR16 r s
  | .decRm8 e => Sys2Proof.Machine.execDecRm8 e s
  | .decRm16 e => Sys2Proof.Machine.execDecRm16 e s
  | .aaa => Sys2Proof.Machine.execAaa s
  | .daa => Sys2Proof.Machine.execDaa s
  | .aas => Sys2Proof.Machine.execAas s
  | .das => Sys2Proof.Machine.execDas s
  | .aam => Sys2Proof.Machine.execAam s
  | .aad => Sys2Proof.Machine.execAad s
  | .cbw => Sys2Proof.Machine.execCbw s
  | .cwd => Sys2Proof.Machine.execCwd s
  | .negRm8 e => Sys2Proof.Machine.execNegRm8 e s
  | .negRm16 e => Sys2Proof.Machine.execNegRm16 e s
  | .mulRm8 e => Sys2Proof.Machine.execMulRm8 e s
  | .mulRm16 e => Sys2Proof.Machine.execMulRm16 e s
  | .imulRm8 e => Sys2Proof.Machine.execImulRm8 e s
  | .imulRm16 e => Sys2Proof.Machine.execImulRm16 e s
  | .divRm8 e => Sys2Proof.Machine.execDivRm8 e s
  | .divRm16 e => Sys2Proof.Machine.execDivRm16 e s
  | .idivRm8 e => Sys2Proof.Machine.execIdivRm8 e s
  | .idivRm16 e => Sys2Proof.Machine.execIdivRm16 e s
  -- Logic
  | .notRm8 e => Sys2Proof.Machine.execNotRm8 e s
  | .notRm16 e => Sys2Proof.Machine.execNotRm16 e s
  | .testRm8R8 e r => Sys2Proof.Machine.execTestRm8R8 e r s
  | .testRm16R16 e r => Sys2Proof.Machine.execTestRm16R16 e r s
  | .testAlImm8 v => Sys2Proof.Machine.execTestAlImm8 v s
  | .testAxImm16 v => Sys2Proof.Machine.execTestAxImm16 v s
  | .testRm8Imm8 e v => Sys2Proof.Machine.execTestRm8Imm8 e v s
  | .testRm16Imm16 e v => Sys2Proof.Machine.execTestRm16Imm16 e v s
  | .rolRm8One e => Sys2Proof.Machine.execRolRm8One e s
  | .rolRm16One e => Sys2Proof.Machine.execRolRm16One e s
  | .rolRm8Cl e => Sys2Proof.Machine.execRolRm8Cl e s
  | .rolRm16Cl e => Sys2Proof.Machine.execRolRm16Cl e s
  | .rorRm8One e => Sys2Proof.Machine.execRorRm8One e s
  | .rorRm16One e => Sys2Proof.Machine.execRorRm16One e s
  | .rorRm8Cl e => Sys2Proof.Machine.execRorRm8Cl e s
  | .rorRm16Cl e => Sys2Proof.Machine.execRorRm16Cl e s
  | .rclRm8One e => Sys2Proof.Machine.execRclRm8One e s
  | .rclRm16One e => Sys2Proof.Machine.execRclRm16One e s
  | .rclRm8Cl e => Sys2Proof.Machine.execRclRm8Cl e s
  | .rclRm16Cl e => Sys2Proof.Machine.execRclRm16Cl e s
  | .rcrRm8One e => Sys2Proof.Machine.execRcrRm8One e s
  | .rcrRm16One e => Sys2Proof.Machine.execRcrRm16One e s
  | .rcrRm8Cl e => Sys2Proof.Machine.execRcrRm8Cl e s
  | .rcrRm16Cl e => Sys2Proof.Machine.execRcrRm16Cl e s
  | .shlRm8One e => Sys2Proof.Machine.execShlRm8One e s
  | .shlRm16One e => Sys2Proof.Machine.execShlRm16One e s
  | .shlRm8Cl e => Sys2Proof.Machine.execShlRm8Cl e s
  | .shlRm16Cl e => Sys2Proof.Machine.execShlRm16Cl e s
  | .shrRm8One e => Sys2Proof.Machine.execShrRm8One e s
  | .shrRm16One e => Sys2Proof.Machine.execShrRm16One e s
  | .shrRm8Cl e => Sys2Proof.Machine.execShrRm8Cl e s
  | .shrRm16Cl e => Sys2Proof.Machine.execShrRm16Cl e s
  | .sarRm8One e => Sys2Proof.Machine.execSarRm8One e s
  | .sarRm16One e => Sys2Proof.Machine.execSarRm16One e s
  | .sarRm8Cl e => Sys2Proof.Machine.execSarRm8Cl e s
  | .sarRm16Cl e => Sys2Proof.Machine.execSarRm16Cl e s
  -- Strings
  | .movsb => Sys2Proof.Machine.execMovsb s
  | .movsw => Sys2Proof.Machine.execMovsw s
  | .cmpsb => Sys2Proof.Machine.execCmpsb s
  | .cmpsw => Sys2Proof.Machine.execCmpsw s
  | .stosb => Sys2Proof.Machine.execStosb s
  | .stosw => Sys2Proof.Machine.execStosw s
  | .lodsb => Sys2Proof.Machine.execLodsb s
  | .lodsw => Sys2Proof.Machine.execLodsw s
  | .scasb => Sys2Proof.Machine.execScasb s
  | .scasw => Sys2Proof.Machine.execScasw s
  | .repne => Sys2Proof.Machine.execRepne s
  | .rep => Sys2Proof.Machine.execRep s
  -- Control
  | .callRel16 d => Sys2Proof.Machine.execCallRel16 d s
  | .callRm16 e => Sys2Proof.Machine.execCallRm16 e s
  | .callFar off seg => Sys2Proof.Machine.execCallFar off seg s
  | .callFarM m => Sys2Proof.Machine.execCallFarM m s
  | .jmpRel16 d => Sys2Proof.Machine.execJmpRel16 d s
  | .jmpRel8 d => Sys2Proof.Machine.execJmpRel8 d s
  | .jmpRm16 e => Sys2Proof.Machine.execJmpRm16 e s
  | .jmpFar off seg => Sys2Proof.Machine.execJmpFar off seg s
  | .jmpFarM m => Sys2Proof.Machine.execJmpFarM m s
  | .retNear => Sys2Proof.Machine.execRetNear s
  | .retNearImm16 v => Sys2Proof.Machine.execRetNearImm16 v s
  | .retFar => Sys2Proof.Machine.execRetFar s
  | .retFarImm16 v => Sys2Proof.Machine.execRetFarImm16 v s
  | .jo d => Sys2Proof.Machine.execJo d s
  | .jno d => Sys2Proof.Machine.execJno d s
  | .jb d => Sys2Proof.Machine.execJb d s
  | .jnb d => Sys2Proof.Machine.execJnb d s
  | .je d => Sys2Proof.Machine.execJe d s
  | .jne d => Sys2Proof.Machine.execJne d s
  | .jbe d => Sys2Proof.Machine.execJbe d s
  | .jnbe d => Sys2Proof.Machine.execJnbe d s
  | .js d => Sys2Proof.Machine.execJs d s
  | .jns d => Sys2Proof.Machine.execJns d s
  | .jp d => Sys2Proof.Machine.execJp d s
  | .jnp d => Sys2Proof.Machine.execJnp d s
  | .jl d => Sys2Proof.Machine.execJl d s
  | .jnl d => Sys2Proof.Machine.execJnl d s
  | .jle d => Sys2Proof.Machine.execJle d s
  | .jnle d => Sys2Proof.Machine.execJnle d s
  | .loop d => Sys2Proof.Machine.execLoop d s
  | .loope d => Sys2Proof.Machine.execLoope d s
  | .loopne d => Sys2Proof.Machine.execLoopne d s
  | .jcxz d => Sys2Proof.Machine.execJcxz d s
  | .intN n => Sys2Proof.Machine.execIntN n s
  | .int3 => Sys2Proof.Machine.execInt3 s
  | .into => Sys2Proof.Machine.execInto s
  | .iret => Sys2Proof.Machine.execIret s
  -- Processor
  | .esc x e => Sys2Proof.Machine.execEsc x e s
  | .notUsed op next => Sys2Proof.Machine.execNotUsed op next s
  | .clc => Sys2Proof.Machine.execClc s
  | .cmc => Sys2Proof.Machine.execCmc s
  | .stc => Sys2Proof.Machine.execStc s
  | .cld => Sys2Proof.Machine.execCld s
  | .std => Sys2Proof.Machine.execStd s
  | .cli => Sys2Proof.Machine.execCli s
  | .sti => Sys2Proof.Machine.execSti s
  | .nop => Sys2Proof.Machine.execNop s
  | .esOverride => Sys2Proof.Machine.execEsOverride s
  | .csOverride => Sys2Proof.Machine.execCsOverride s
  | .ssOverride => Sys2Proof.Machine.execSsOverride s
  | .dsOverride => Sys2Proof.Machine.execDsOverride s
  | .lock => Sys2Proof.Machine.execLock s
  | .wait => Sys2Proof.Machine.execWait s
  | .hlt => Sys2Proof.Machine.execHlt s

end Sys2Proof.Machine
end

