-- ==== Sys2Proof/Machine/Prefixes.lean ====
section
/-! DEFINITION. Before which instructions a prefix is documented (R271, R275 (f), R508, U28, log entry 9). -/

namespace Sys2Proof

/-- An `r/m` operand is in memory. -/
def RM.isMem {ρ : Type} : RM ρ → Bool
  | .reg _ => false
  | .mem _ => true

namespace Machine

/-- The instructions before which a segment override is documented: those with an overridable memory operand (R141,
R508), and `LEA`, on which it has no effect (R316). `STOS` and `SCAS` have none: their operand ES:DI is not overridable
(R141, R434, R436). An encoding Intel does not use is refused on its own. -/
def takesOverride : Instr → Bool
  | .addRm8R8 e _ | .addR8Rm8 _ e | .orRm8R8 e _ | .orR8Rm8 _ e | .adcRm8R8 e _ | .adcR8Rm8 _ e | .sbbRm8R8 e _
  | .sbbR8Rm8 _ e | .andRm8R8 e _ | .andR8Rm8 _ e | .subRm8R8 e _ | .subR8Rm8 _ e | .xorRm8R8 e _
  | .xorR8Rm8 _ e | .cmpRm8R8 e _ | .cmpR8Rm8 _ e | .addRm8Imm8 e _ | .orRm8Imm8 e _ | .adcRm8Imm8 e _
  | .sbbRm8Imm8 e _ | .andRm8Imm8 e _ | .subRm8Imm8 e _ | .xorRm8Imm8 e _ | .cmpRm8Imm8 e _ | .addRm8Imm8Alt e _
  | .adcRm8Imm8Alt e _ | .sbbRm8Imm8Alt e _ | .subRm8Imm8Alt e _ | .cmpRm8Imm8Alt e _ | .movRm8R8 e _
  | .movR8Rm8 _ e | .movRm8Imm8 e _ | .xchgR8Rm8 _ e | .incRm8 e | .decRm8 e | .negRm8 e | .mulRm8 e
  | .imulRm8 e | .divRm8 e | .idivRm8 e | .notRm8 e | .testRm8R8 e _ | .testRm8Imm8 e _ | .rolRm8One e
  | .rolRm8Cl e | .rorRm8One e | .rorRm8Cl e | .rclRm8One e | .rclRm8Cl e | .rcrRm8One e | .rcrRm8Cl e
  | .shlRm8One e | .shlRm8Cl e | .shrRm8One e | .shrRm8Cl e | .sarRm8One e | .sarRm8Cl e => e.isMem
  | .addRm16R16 e _ | .addR16Rm16 _ e | .orRm16R16 e _ | .orR16Rm16 _ e | .adcRm16R16 e _ | .adcR16Rm16 _ e
  | .sbbRm16R16 e _ | .sbbR16Rm16 _ e | .andRm16R16 e _ | .andR16Rm16 _ e | .subRm16R16 e _ | .subR16Rm16 _ e
  | .xorRm16R16 e _ | .xorR16Rm16 _ e | .cmpRm16R16 e _ | .cmpR16Rm16 _ e | .addRm16Imm16 e _ | .orRm16Imm16 e _
  | .adcRm16Imm16 e _ | .sbbRm16Imm16 e _ | .andRm16Imm16 e _ | .subRm16Imm16 e _ | .xorRm16Imm16 e _
  | .cmpRm16Imm16 e _ | .addRm16Simm8 e _ | .adcRm16Simm8 e _ | .sbbRm16Simm8 e _ | .subRm16Simm8 e _
  | .cmpRm16Simm8 e _ | .pushRm16 e | .popRm16 e | .movRm16R16 e _ | .movR16Rm16 _ e | .movRm16Sreg e _
  | .movEsRm16 e | .movSsRm16 e | .movDsRm16 e | .movRm16Imm16 e _ | .xchgR16Rm16 _ e | .incRm16 e | .decRm16 e
  | .negRm16 e | .mulRm16 e | .imulRm16 e | .divRm16 e | .idivRm16 e | .notRm16 e | .testRm16R16 e _
  | .testRm16Imm16 e _ | .rolRm16One e | .rolRm16Cl e | .rorRm16One e | .rorRm16Cl e | .rclRm16One e
  | .rclRm16Cl e | .rcrRm16One e | .rcrRm16Cl e | .shlRm16One e | .shlRm16Cl e | .shrRm16One e | .shrRm16Cl e
  | .sarRm16One e | .sarRm16Cl e | .callRm16 e | .jmpRm16 e | .esc _ e => e.isMem
  | .movAlMoffs _ | .movAxMoffs _ | .movMoffsAl _ | .movMoffsAx _ | .xlat | .lea _ _ | .lds _ _ | .les _ _
  | .movsb | .movsw | .cmpsb | .cmpsw | .lodsb | .lodsw | .callFarM _ | .jmpFarM _ | .notUsed _ _ => true
  | .addAlImm8 _ | .addAxImm16 _ | .orAlImm8 _ | .orAxImm16 _ | .adcAlImm8 _ | .adcAxImm16 _ | .sbbAlImm8 _
  | .sbbAxImm16 _ | .andAlImm8 _ | .andAxImm16 _ | .subAlImm8 _ | .subAxImm16 _ | .xorAlImm8 _ | .xorAxImm16 _
  | .cmpAlImm8 _ | .cmpAxImm16 _ | .pushEs | .pushCs | .pushSs | .pushDs | .popEs | .popSs | .popDs | .pushR16 _
  | .popR16 _ | .movR8Imm8 _ _ | .movR16Imm16 _ _ | .xchgAxR16 _ | .lahf | .sahf | .pushf | .popf | .inAlImm8 _
  | .inAxImm8 _ | .inAlDx | .inAxDx | .outImm8Al _ | .outImm8Ax _ | .outDxAl | .outDxAx | .incR16 _ | .decR16 _
  | .aaa | .daa | .aas | .das | .aam | .aad | .cbw | .cwd | .testAlImm8 _ | .testAxImm16 _ | .repne | .rep
  | .callRel16 _ | .callFar _ _ | .jmpRel16 _ | .jmpRel8 _ | .jmpFar _ _ | .retNear | .retNearImm16 _ | .retFar
  | .retFarImm16 _ | .jo _ | .jno _ | .jb _ | .jnb _ | .je _ | .jne _ | .jbe _ | .jnbe _ | .js _ | .jns _
  | .jp _ | .jnp _ | .jl _ | .jnl _ | .jle _ | .jnle _ | .loop _ | .loope _ | .loopne _ | .jcxz _ | .intN _
  | .int3 | .into | .iret | .clc | .cmc | .stc | .cld | .std | .cli | .sti | .nop | .esOverride | .csOverride
  | .ssOverride | .dsOverride | .lock | .wait | .hlt | .stosb | .stosw | .scasb | .scasw => false

/-- The instructions before which a repeat prefix is documented: the string instructions (R430). -/
def takesRepeat : Instr → Bool
  | .movsb | .movsw | .cmpsb | .cmpsw | .stosb | .stosw | .lodsb | .lodsw | .scasb | .scasw => true
  | _ => false

/-- The prefix bytes (R271). -/
def isPrefix : Instr → Bool
  | .esOverride | .csOverride | .ssOverride | .dsOverride | .lock | .repne | .rep => true
  | _ => false

/-- The prefixes armed are documented before this instruction; `LOCK` is before every one (R300 (c)), and a prefix may
follow any prefix (R271). -/
def State.admits (s : State) (i : Instr) : Bool :=
  isPrefix i || ((s.armed.seg.isNone || takesOverride i) && (s.armed.rep.isNone || takesRepeat i))

end Machine

end Sys2Proof
end

