-- ==== Sys2Proof/Machine/Fetch.lean ====
section
/-! DEFINITION. The instruction set as a parameter, and the taking of an instruction from the queue, one instruction or
one prefix byte at a time (R10, R45, R132, R158, R272, log entries 8, 19, 20). -/

namespace Sys2Proof.Machine

/-- An instruction set (`Isa`, R10, `92_eei_decisions.md` D1): how bytes are read, what an instruction does, and which
prefixes are documented before it. -/
structure Isa where
  decode : List Byte → Parse Instr
  meaning : Instr → State → Result
  admits : State → Instr → Bool

/-- The fetch of a byte the CPU waits for: the queue is empty and the bus interface fills it (R45). What happens before
the fetch cycle may have filled it already; where the cycle cannot run, or RESET comes, the fetch stalls. -/
def State.demand (s : State) : State :=
  let t := s.pass .between
  match t.flight.cut with
  | some h => (t.cutCycle h.1 h.2 none).stall .between
  | none =>
    let u := if t.queue.isEmpty then t.biuFetch else t
    if u.queue.isEmpty then u.stall .between else u

/-- The next byte of the instruction stream taken from the queue, which is filled first when it is empty; QS1 QS0 say
whether it is the first byte of an instruction (R32, R45, log entry 40). -/
def State.takeByte (s : State) (first : Bool) : Option Byte × State :=
  let t := if s.queue.isEmpty then s.demand else s
  if t.flight.stalled.isSome then (none, t)
  else
    match t.queue with
    | [] => (none, t)
    | b :: rest =>
      (some b, { t with
        queue := rest
        ip := t.ip + 1
        log := { t.log with queue := t.log.queue ++ [if first then .first else .subsequent] } })

/-- How the taking of an instruction ends. -/
inductive Fetched where
  /-- With an instruction. -/
  | instr (i : Instr) (s : State)
  /-- At a fetch cycle that cannot run: the bytes taken stand in the queue again. -/
  | waits (s : State)
  /-- With too many bytes that are no instruction. -/
  | undecodable

/-- The bytes taken put back, as if none had been. -/
def State.untake (s : State) (seen : List Byte) (ip : Word) : State :=
  { s with queue := seen ++ s.queue, ip := ip, log := { s.log with queue := [] } }

/-- Bytes taken one after another until they are a whole instruction (R272), `fuel` of them at most; `ip` is the offset
of the first. -/
def State.takeInstr (isa : Isa) (ip : Word) : Nat → List Byte → State → Fetched
  | 0, _, _ => .undecodable
  | fuel + 1, seen, s =>
    match s.takeByte seen.isEmpty with
    | (none, t) => .waits (t.untake seen ip)
    | (some b, t) =>
      match isa.decode (seen ++ [b]) with
      | some d => .instr d.1 t
      | none => State.takeInstr isa ip fuel (seen ++ [b]) t

/-- The offsets an interrupted instruction may resume at: its first byte, prefixes included, and the byte about to be
taken (R301, R430). -/
def State.markStart (s : State) : State :=
  { s with armed := { s.armed with start := if s.armed.pending then s.armed.start else s.ip, opcode := s.ip } }

/-- The next instruction, at most six bytes without its prefixes (R260), and the state with `ip` after it. -/
def State.fetch (isa : Isa) (s : State) : Fetched := s.markStart.takeInstr isa s.ip 6 []

end Sys2Proof.Machine
end

