-- ==== Sys2Proof/Machine/Turn.lean ====
section
/-! DEFINITION. A turn of the CPU: it goes on with a task that waited for the bus, or services what is due, or goes on
with an instruction, or fetches and runs the next one (R527 to R532, R301, R302, R430; log entries 23 to 25, 37). -/

namespace Sys2Proof.Machine

/-- Layer G: the decoder and the meanings of this model (R7, D1). -/
def Isa.layerG : Isa := { decode := Sys2Proof.decode, meaning := exec, admits := State.admits }

/-! ## What is due at a boundary (R528, R529) -/

/-- Nothing is recognised: before the end of the first instruction after RESET, between a prefix and its instruction, in
the shadow of a segment-register load, and when a `WAIT` sees #TEST active (R528, R620, R301). -/
def State.deaf (s : State) : Bool :=
  s.unstarted || s.armed.pending || decide (s.shadow = .all) || (decide (s.inProgress = some .wait) && !s.pins.test)

/-- The highest of NMI, INTR and single step that is due (R528, R529). -/
def State.due (s : State) : Option Due :=
  if s.deaf then none
  else if s.nmiLatch then some .nmi
  else if s.pins.intr && s.flags.ifl && decide (s.shadow ≠ .intr) then some .intr
  else if s.trap ≠ .none then some .trap
  else none

/-- The offset an interrupt saves: the last prefix of a repeated string instruction, the first byte of a waiting
`WAIT`, otherwise the next instruction (R301, R430, R521, R641). -/
def State.returnOffset (s : State) : Word :=
  match s.inProgress with
  | some .wait => s.armed.start
  | some _ => s.armed.opcode - 1
  | none => s.ip

/-- The prefixes used up. -/
def State.disarm (s : State) : State :=
  { s with locked := false, armed := { s.armed with pending := false, seg := none, rep := none } }

/-- The instruction in progress, its prefixes and the shadow are given up when an interrupt is taken (R641). -/
def State.abandon (s : State) : State := { s.disarm with inProgress := none, shadow := .none }

/-- The sequence of the interrupt that is due (R524, R527, R532). -/
def State.service (s : State) (d : Due) : State :=
  let t := s.abandon
  match d with
  | .nmi => t.interrupt 2 (t.segReg .cs) s.returnOffset
  | .intr => t.acknowledge.2.interrupt t.acknowledge.1 (t.segReg .cs) s.returnOffset
  | .trap => t.interrupt 1 (t.segReg .cs) s.returnOffset

/-- The start of a sequence: the halt is over, as it is again at its end (R302, R530 step 6), and an NMI leaves its latch
(R524). -/
def State.accept (s : State) (d : Due) : State :=
  { s with halted := false, nmiLatch := s.nmiLatch && decide (d ≠ .nmi) }

/-! ## Running one instruction -/

/-- The state an instruction starts in: what the boundary before it left is used up, and a single step will be owed after
it if TF is 1 (R527). -/
def State.start (s : State) : State :=
  { s with
    shadow := .none
    trap := if s.flags.tf then .stepped else .none
    unstarted := false
    inProgress := none
    armed := { s.armed with pending := false } }

/-- The boundary after `s` ran to `t`. A prefix leaves the shadow and the trap as they were; so does a `WAIT` that goes
on waiting; a string instruction that goes on keeps the shadow; an instruction that is over uses up its prefixes. The
trap is the one `start` set, or the one an interrupt sequence of the instruction left (R46, R430, R527, R529, log
entry 24). Under `LOCK` a `HLT` is over when the halt begins, and #LOCK with it (log entry 50). -/
def State.finish (s t : State) : State :=
  if t.armed.pending then { t with shadow := s.shadow, trap := s.trap }
  else
    match t.inProgress with
    | some .wait => { t with shadow := s.shadow, trap := s.trap }
    | some _ => { t with shadow := s.shadow }
    | none => t.disarm

/-- An instruction run, from its start to its boundary. -/
def State.runInstr (isa : Isa) (s : State) (i : Instr) : Result :=
  if isa.admits s i then
    match isa.meaning i s.start with
    | .next t => .next (s.finish t)
    | .fault f => .fault f
    | .refused r => .refused r
  else .refused .undocumentedPrefix

/-- A task run. -/
def State.perform (isa : Isa) (s : State) : Task → Result
  | .instr i => s.runInstr isa i
  | .service d => .next (s.service d)

/-! ## Waiting for the bus (R182, R194, R199) -/

/-- The data of the cycles a task has run in the step, the fetches left out. -/
def Log.dataLanes (l : Log) : List Lanes := (l.cycles.filter fun c => decide (c.kind ≠ .fetch)).map BusCycle.data

/-- A task that began with `s` and stalled in `t`: the registers are those it had reached; what a boundary decides, and
the counter of free values, are as it began; all else is that of `t`. -/
def State.hold (s t : State) (w : Stall) : State :=
  { t.withRegisters w.held with
    halted := s.halted
    locked := s.locked
    armed := s.armed
    inProgress := s.inProgress
    shadow := s.shadow
    trap := s.trap
    unstarted := s.unstarted
    draws := s.draws }

/-- A task run from `s`, its first cycles, whose data are `past`, being over. Where it stalls, the cycles it has run
stay run, and the task waits. -/
def State.carry (isa : Isa) (s : State) (task : Task) (past : List Lanes) : Result :=
  match { s with midway := none, flight := { s.flight with again := past } }.perform isa task with
  | .next t =>
    match t.flight.stalled with
    | some w =>
      .next { s.hold t w with
        midway := some { task, point := w.point, origin := s.registers, past := past ++ t.log.dataLanes } }
    | none => .next t
  | .fault f => .fault f
  | .refused r => .refused r

/-! ## The turn -/

/-- The start of a turn: an empty log, and what happens at its points. -/
def State.beginTurn (s : State) (gaps : List (List Event)) : State :=
  { s with log := .empty, flight := { Flight.idle with gaps := gaps } }

/-- A turn of the CPU, `s` being its start: it goes on with a task that waits; otherwise it services what is due; otherwise,
unless halted, it runs an instruction (log entries 23, 37). -/
def State.turn (isa : Isa) (s : State) : Result :=
  match s.midway with
  | some m => (s.withRegisters m.origin).carry isa m.task m.past
  | none =>
    match s.due with
    | some d => (s.accept d).carry isa (.service d) []
    | none =>
      if s.halted then .next s
      else
        match s.inProgress with
        | some i => s.carry isa (.instr i) []
        | none =>
          match s.fetch isa with
          | .instr i t => t.carry isa (.instr i) []
          | .waits t => .next t
          | .undecodable => .refused .undecodable

/-- The CPU moves. -/
def State.cpuTurn (isa : Isa) (s : State) (gaps : List (List Event)) : Result := (s.beginTurn gaps).turn isa

end Sys2Proof.Machine
end

