-- ==== Sys2Proof/Machine/Events.lean ====
section
/-! DEFINITION. RESET, the events between two turns, and who moves next (R50, R51, R551, R620; log entries 11, 21,
22). -/

namespace Sys2Proof.Machine

/-! ## Reset (R50, R51, R620) -/

/-- The registers after a RESET: free values (R52, log entry 22). -/
def freshRegs (n : Nat) : Regs :=
  { ax := Config.freeWord n, cx := Config.freeWord (n + 1), dx := Config.freeWord (n + 2),
    bx := Config.freeWord (n + 3), sp := Config.freeWord (n + 4), bp := Config.freeWord (n + 5),
    si := Config.freeWord (n + 6), di := Config.freeWord (n + 7) }

/-- RESET: the state of R51; memory, devices, inputs and parameters stay (R620, R623). That QS1 QS0 do not report the
emptying of the queue is log entry 48. -/
def State.doReset (s : State) : State :=
  { State.reset with
    regs := freshRegs s.draws
    pins := s.pins
    mem := s.mem
    devices := s.devices
    params := s.params
    draws := s.draws + 8
    floats := s.floats
    script := s.script
    log := s.log }

/-! ## Moves -/

/-- The point the CPU is at between two turns: the one a task waits at, if one does. -/
def State.point (s : State) : Point :=
  match s.midway with
  | some m => m.point
  | none => .between

/-- An event between two turns (R551), if the point the CPU is at admits it (R197, R657). RESET ends a bus cycle that
hangs (R620, U26). -/
def State.happen (s : State) : Event → State
  | .reset low high => (s.cutCycle low high none).doReset
  | e => if s.point.admits s.params e then s.occur e else s

/-- The end of a turn: RESET, if it came during it; nothing in flight. -/
def State.endTurn (s : State) : State :=
  if s.flight.cut.isSome then s.doReset else { s with flight := .idle }

/-- A turn of the CPU beside which things happen. -/
def State.play (isa : Isa) (s : State) (gaps : List (List Event)) : Result :=
  match s.cpuTurn isa gaps with
  | .next t => .next t.endTurn
  | .fault f => .fault f
  | .refused r => .refused r

/-- A turn of the CPU when the environment will do nothing more: where it waits for the bus it is stuck (R182, R199, log
entry 37). -/
def State.alone (isa : Isa) (s : State) : Result :=
  match s.cpuTurn isa [] with
  | .next t =>
    if t.flight.stalled.isSome then .fault (if t.owner = .cpu then .stuckNotReady else .stuckBusCeded) else .next t.endTurn
  | .fault f => .fault f
  | .refused r => .refused r

/-- The next move: the script's, or the CPU's own when the script is over (log entry 11). -/
def State.move (isa : Isa) (s : State) : Result :=
  match s.script with
  | [] => s.alone isa
  | .cpu gaps :: rest => { s with script := rest }.play isa gaps
  | .env e :: rest => .next ({ s with script := rest, log := .empty }.happen e)

end Sys2Proof.Machine
end

