-- ==== Sys2Proof/Machine/Step.lean ====
section
/-! DEFINITION. The step of the machine, and the placing of one instruction where the next step fetches it
(log entry 34). -/

namespace Sys2Proof.Machine

/-- One step: one move, of the CPU with the instruction set of this model, or of the environment. -/
def step (s : State) : Host.Outcome State Fault Refusal := s.move .layerG

/-- The state with nothing between it and the fetch at CS:IP: no move of the environment, nothing due, nothing in
progress, no prefix, an empty queue, the bus the CPU's. -/
def State.atFetch (s : State) : State :=
  { s with
    queue := []
    halted := false
    locked := false
    armed := { pending := false, seg := none, rep := none, start := s.ip, opcode := s.ip }
    inProgress := none
    nmiLatch := false
    shadow := .none
    trap := .none
    owner := .cpu
    ch0 := .idle
    ch1 := .idle
    hung := false
    stuck := none
    pins := { s.pins with intr := false }
    script := []
    midway := none
    flight := .idle }

/-- A byte stored where a fetch will read it: an address where nothing is installed becomes RAM. -/
def State.placeByte (s : State) (a : Addr) (b : Byte) : State :=
  { s with
    mem := Memory.write s.mem a.toNat b
    params := if s.kindAt a = .absent then
        { s.params with memMap := { base := a.toNat, size := 1, kind := .ram } :: s.params.memMap }
      else s.params }

/-- Bytes stored from an offset of the code segment on. -/
def State.placeCode (s : State) (off : Word) : List Byte → State
  | [] => s
  | b :: bs => (s.placeByte (s.addr .cs off) b).placeCode (off + 1) bs

/-- The state whose next step fetches and runs the instruction with these bits. -/
def State.withFetchWord (s : State) (nbits w : Nat) : State := s.atFetch.placeCode s.ip (tableBytes nbits w)

end Sys2Proof.Machine
end

