-- ==== Sys2Proof/Machine/Pins.lean ====
section
/-! DEFINITION. The pins: which signals exist in each mode, and the levels the CPU's outputs take, as functions of the
state and of the bus cycles it runs (R48; `12_pins_and_signals.md`, `22_bus_cycle_and_arbitration.md`). `true` is
level 1; `none` is a level the spec gives nothing for, or a line the CPU does not drive. -/

namespace Sys2Proof.Machine

/-! ## The signals (R61, R96 to R98) -/

/-- The signals of the pin tables (R61). -/
inductive Signal where
  | ad
  | a19s6
  | a18s5
  | a17s4
  | a16s3
  | ale
  | dtR
  | den
  | bheS7
  | ready
  | intr
  | nmi
  | inta
  | reset
  | test
  | lock
  | clk
  | vcc
  | gnd
  | mnMx
  | mIo
  | rd
  | wr
  | hold
  | holda
  | rqGt0
  | rqGt1
  | qs0
  | qs1
  | s0
  | s1
  | s2
  deriving DecidableEq, Repr

/-- Column DIR of the pin tables (R61). -/
inductive Direction where
  | input
  | output
  | both
  deriving DecidableEq, Repr

/-- Columns Min. and Max. of the pin tables: who makes the signal in a mode (R60). -/
inductive Provision where
  /-- `SI`: on the CPU. -/
  | cpu
  /-- `*`: made by the 8288. -/
  | controller
  /-- `NO`. -/
  | missing
  deriving DecidableEq, Repr

/-- The direction of a signal (R61). -/
def Signal.direction : Signal → Direction
  | .ad | .rqGt0 | .rqGt1 => .both
  | .ready | .intr | .nmi | .reset | .test | .clk | .vcc | .gnd | .mnMx | .hold => .input
  | .a19s6 | .a18s5 | .a17s4 | .a16s3 | .ale | .dtR | .den | .bheS7 | .inta | .lock | .mIo | .rd | .wr | .holda
  | .qs0 | .qs1 | .s0 | .s1 | .s2 => .output

/-- Who makes a signal in a mode (R61, R96, R97). -/
def Signal.provision (mode : Mode) : Signal → Provision
  | .ad | .a19s6 | .a18s5 | .a17s4 | .a16s3 | .bheS7 | .ready | .intr | .nmi | .reset | .test | .clk | .vcc | .gnd
  | .mnMx | .rd => .cpu
  | .ale | .dtR | .den | .inta | .mIo | .wr =>
    match mode with | .minimum => .cpu | .maximum => .controller
  | .hold | .holda =>
    match mode with | .minimum => .cpu | .maximum => .missing
  | .lock | .rqGt0 | .rqGt1 | .qs0 | .qs1 | .s0 | .s1 | .s2 =>
    match mode with | .minimum => .missing | .maximum => .cpu

/-- The pins of a signal on the 40-pin package, in each mode that has it (R98): AD0 comes first. -/
def Signal.pins : Signal → List Nat
  | .ad => [16, 15, 14, 13, 12, 11, 10, 9, 8, 7, 6, 5, 4, 3, 2, 39]
  | .gnd => [1, 20]
  | .nmi => [17]
  | .intr => [18]
  | .clk => [19]
  | .reset => [21]
  | .ready => [22]
  | .test => [23]
  | .inta | .qs1 => [24]
  | .ale | .qs0 => [25]
  | .den | .s0 => [26]
  | .dtR | .s1 => [27]
  | .mIo | .s2 => [28]
  | .wr | .lock => [29]
  | .holda | .rqGt1 => [30]
  | .hold | .rqGt0 => [31]
  | .rd => [32]
  | .mnMx => [33]
  | .bheS7 => [34]
  | .a19s6 => [35]
  | .a18s5 => [36]
  | .a17s4 => [37]
  | .a16s3 => [38]
  | .vcc => [40]

/-- The outputs the CPU stops driving while the bus is ceded (R194). -/
def Signal.floats (mode : Mode) : Signal → Bool
  | .ad | .a19s6 | .a18s5 | .a17s4 | .a16s3 | .bheS7 | .rd => true
  | .mIo | .wr | .den | .dtR | .inta => decide (mode = .minimum)
  | .s0 | .s1 | .s2 | .lock => decide (mode = .maximum)
  | .ale | .ready | .intr | .nmi | .reset | .test | .clk | .vcc | .gnd | .mnMx | .hold | .holda | .rqGt0 | .rqGt1
  | .qs0 | .qs1 => false

/-! ## Status codes -/

/-- The levels of #S2 #S1 #S0 for a kind of bus cycle (R92). -/
def BusKind.status : BusKind → BitVec 3
  | .inta => 0#3
  | .ior => 1#3
  | .iow => 2#3
  | .halt => 3#3
  | .fetch => 4#3
  | .memr => 5#3
  | .memw => 6#3
  | .passive => 7#3

/-- The two columns of the segment-status table (R93). -/
def segmentCode : Option SegReg → Bool × Bool
  | some .es => (false, false)
  | some .ss => (false, true)
  | some .cs => (true, false)
  | none => (true, false)
  | some .ds => (true, true)

/-- The levels of S3 and S4: which of them is the left column is the parameter `SegStatusOrder` (R93, D4,
log entry 31). -/
def Params.segmentStatus (p : Params) (seg : Option SegReg) : Bool × Bool :=
  let c := segmentCode seg
  if p.intelSegStatus then (c.2, c.1) else c

/-- The levels of QS1 QS0 (R45). -/
def QueueStatus.code : QueueStatus → BitVec 2
  | .first => 1#2
  | .emptied => 2#2
  | .subsequent => 3#2

/-- The levels of QS1 QS0 in a clock in which nothing happens to the queue (R45). -/
def queueIdle : BitVec 2 := 0#2

/-! ## One bus cycle on the pins (R95, R99, R172, R174, R175) -/

/-- The multiplexed pins carry the address in T1 and data and status afterwards (R95). -/
inductive Phase where
  | address
  | data
  deriving DecidableEq, Repr

/-- A cycle moves data toward the CPU, away from it, or not at all. -/
inductive Transfer where
  | receive
  | transmit
  | idle
  deriving DecidableEq, Repr

/-- The direction of the data of a kind of cycle (R172). -/
def BusKind.transfer : BusKind → Transfer
  | .inta | .ior | .fetch | .memr => .receive
  | .iow | .memw => .transmit
  | .halt | .passive => .idle

/-- AD15 to AD0: the address, then the data the CPU drives; on a half that takes no part, and while the CPU receives,
nothing (R62, R95, R121). The low half comes first. -/
def BusCycle.adPins (c : BusCycle) : Phase → Option Byte × Option Byte
  | .address =>
    match c.addr with
    | some a => (some (a.extractLsb' 0 8), some (a.extractLsb' 8 8))
    | none => (none, none)
  | .data => if c.kind.transfer = .transmit then (c.data.low, c.data.high) else (none, none)

/-- A19/S6, A18/S5, A17/S4, A16/S3: address bits, then S6, which is not used, S5 = IF, and the segment (R63 to R65,
R93, R94). -/
def BusCycle.statusPins (p : Params) (c : BusCycle) : Phase → List (Option Bool)
  | .address =>
    match c.addr with
    | some a => [some (a.getLsbD 19), some (a.getLsbD 18), some (a.getLsbD 17), some (a.getLsbD 16)]
    | none => [none, none, none, none]
  | .data => [none, some c.s5, some (p.segmentStatus c.seg).2, some (p.segmentStatus c.seg).1]

/-- #BHE/S7: #BHE, then S7, which is not used (R69). In a cycle without an address the spec gives #BHE no level
(R302, R532). -/
def BusCycle.bhePin (c : BusCycle) : Phase → Option Bool
  | .address => c.bhe
  | .data => none

/-- The control signals of one cycle in its data part, by their levels (R172). -/
structure Strobes where
  mIo : Option Bool
  rd : Bool
  wr : Bool
  inta : Bool
  dtR : Option Bool
  den : Bool
  deriving DecidableEq, Repr

/-- What the CPU itself drives in minimum mode; #RD, #WR, #INTA and #DEN are active at 0 (R67, R68, R73, R81 to R83,
R172). -/
def BusKind.strobes : BusKind → Strobes
  | .memr | .fetch => { mIo := some true, rd := false, wr := true, inta := true, dtR := some false, den := false }
  | .memw => { mIo := some true, rd := true, wr := false, inta := true, dtR := some true, den := false }
  | .ior => { mIo := some false, rd := false, wr := true, inta := true, dtR := some false, den := false }
  | .iow => { mIo := some false, rd := true, wr := false, inta := true, dtR := some true, den := false }
  | .inta => { mIo := none, rd := true, wr := true, inta := false, dtR := some false, den := false }
  | .halt | .passive => { mIo := none, rd := true, wr := true, inta := true, dtR := none, den := true }

/-- ALE pulses in T1 of every cycle that puts out an address (R66), and of the halt cycle of minimum mode (R177). That it
also does so in acknowledge cycles, and in the halt cycle of maximum mode, is log entry 47. -/
def BusKind.hasAle : BusKind → Bool
  | .passive => false
  | .inta | .ior | .iow | .halt | .fetch | .memr | .memw => true

/-- The level of #LOCK during a cycle, in maximum mode (R76). -/
def BusCycle.lockPin (c : BusCycle) : Bool := !c.lock

/-! ## Levels between bus cycles -/

/-- The levels the CPU drives on #RQ/#GT0 or #RQ/#GT1 in a step: one pulse, active at 0, for each grant it emits on that
channel (R192). -/
def Log.grantPulses (l : Log) (ch : Bool) : List Bool := (l.grants.filter fun g => decide (g = ch)).map fun _ => false

/-- HOLDA: the buses are ceded to the HOLD requester (R85, R190). -/
def State.holdaPin (s : State) : Bool := decide (s.owner = .hold)

/-- #LOCK between bus cycles, in maximum mode; not driven while the bus is ceded (R76, R194, R300). -/
def State.lockPin (s : State) : Option Bool := if s.owner = .cpu then some (!s.lockActive) else none

/-- #S2 #S1 #S0 between bus cycles: the bus is not accessed, or the lines float (R178, R194). -/
def State.idleStatus (s : State) : Option (BitVec 3) :=
  if s.owner = .cpu then some BusKind.passive.status else none

/-- The mode the level of MN/#MX selects (R80). -/
def modeOfPin (level : Bool) : Mode := if level then .minimum else .maximum

/-! ## The states of a bus cycle (R171, R180) -/

/-- The states of a bus cycle (R171). -/
inductive TState where
  | t1
  | t2
  | t3
  | tw
  | t4
  deriving DecidableEq, Repr

/-- The phase of a state (R95). -/
def TState.phase : TState → Phase
  | .t1 => .address
  | .t2 | .t3 | .tw | .t4 => .data

/-- The states after T3 or TW, from the levels READY is sampled at, its own first (R180); nothing when READY has not
come yet. -/
def afterSample : List Bool → Option (List TState)
  | [] => none
  | true :: _ => some [.t4]
  | false :: rest => (afterSample rest).map fun ts => .tw :: ts

/-- The states of a bus cycle, from the levels of READY at the start of T3 and of each TW (R171, R180). -/
def tStates (ready : List Bool) : Option (List TState) :=
  (afterSample ready).map fun ts => .t1 :: .t2 :: .t3 :: ts

/-- The clock periods of a cycle with `n` wait states (R171). -/
def cycleClocks (n : Nat) : Nat := 4 + n

/-- The levels READY is sampled at in a cycle that ends: 0 as many times as it has wait states (R180). -/
def BusCycle.readySamples (c : BusCycle) : List Bool := List.replicate c.waits false ++ [true]

/-- The states a cycle goes through (R171, R180). -/
def BusCycle.states (c : BusCycle) : List TState := (tStates c.readySamples).getD []

/-- ALE in a state of a cycle: a pulse in T1 (R66, R177). -/
def BusKind.alePin (k : BusKind) (t : TState) : Bool := k.hasAle && decide (t = .t1)

end Sys2Proof.Machine
end

