-- ==== Sys2Proof/Machine/Support.lean ====
section
/-! DEFINITION. The support chips as far as the source describes them, 8284, 8288, 8282, 8286, the wiring of the memory
banks, and the two example systems they make with the CPU (`24_support_chips.md`; R146). They hold no state a program
can reach (R627). `true` is level 1. -/

namespace Sys2Proof.Machine

/-! ## 8284 clock generator -/

/-- The inputs of the 8284 on its ready and reset paths (R220). -/
structure ClockInputs where
  rdy1 : Bool
  aen1 : Bool
  rdy2 : Bool
  aen2 : Bool
  res : Bool
  deriving DecidableEq, Repr

/-- READY to the CPU: RDY1 enabled by #AEN1 at 0, or RDY2 enabled by #AEN2 at 0 (R224). -/
def ClockInputs.ready (i : ClockInputs) : Bool := (i.rdy1 && !i.aen1) || (i.rdy2 && !i.aen2)

/-- RESET to the CPU, active at 1 when #RES is 0 (R223). -/
def ClockInputs.reset (i : ClockInputs) : Bool := !i.res

/-- The frequency source F/#C selects: EFI at 1, the crystal at 0 (R222). -/
def oscillator (fc : Bool) (efi crystal : Nat) : Nat := if fc then efi else crystal

/-- The crystal of the figure, in Hz: 14.31818 MHz, which the figure prints as 14.3181 (R221, `90_conflicts.md` C8). -/
def pcCrystal : Nat := 14318180

/-- OSC, the output at the frequency of the crystal (R221, R586). -/
def oscFrequency (crystal : Nat) : Nat := crystal

/-- CLK to the CPU, a third of the source's frequency (R221). -/
def clkFrequency (source : Nat) : Nat := source / 3

/-- PCLK, half of CLK (R221). -/
def pclkFrequency (source : Nat) : Nat := clkFrequency source / 2

/-! ## 8288 bus controller -/

/-- The inputs that enable the 8288's commands (R231). -/
structure ControllerInputs where
  cen : Bool
  aen : Bool
  deriving DecidableEq, Repr

/-- The commands of the 8288; `true` says the command is active, its line then being 0 (R230). -/
structure Commands where
  mrdc : Bool
  mwtc : Bool
  amwc : Bool
  iorc : Bool
  iowc : Bool
  aiowc : Bool
  inta : Bool
  deriving DecidableEq, Repr

/-- No command. -/
def Commands.none : Commands :=
  { mrdc := false, mwtc := false, amwc := false, iorc := false, iowc := false, aiowc := false, inta := false }

/-- The command a kind of bus cycle activates (R232). -/
def BusKind.commands : BusKind → Commands
  | .inta => { Commands.none with inta := true }
  | .ior => { Commands.none with iorc := true }
  | .iow => { Commands.none with iowc := true, aiowc := true }
  | .fetch | .memr => { Commands.none with mrdc := true }
  | .memw => { Commands.none with mwtc := true, amwc := true }
  | .halt | .passive => Commands.none

/-- The commands, produced only with CEN at 1 and #AEN at 0 (R231). -/
def ControllerInputs.commands (i : ControllerInputs) (k : BusKind) : Commands :=
  if i.cen && !i.aen then k.commands else Commands.none

/-- The kind of cycle the 8288 decodes from #S2 #S1 #S0 (R92). -/
def kindOfStatus (c : BitVec 3) : BusKind :=
  match c with
  | 0#3 => .inta
  | 1#3 => .ior
  | 2#3 => .iow
  | 3#3 => .halt
  | 4#3 => .fetch
  | 5#3 => .memr
  | 6#3 => .memw
  | _ => .passive

/-- DEN of the 8288: the CPU's #DEN with the opposite polarity (R68, R235). -/
def BusKind.denHigh (k : BusKind) : Bool := !k.strobes.den

/-! ## 8282 latches -/

/-- What an 8282 holds after a moment with STB (ALE) at a level (R240). -/
def latch {α : Type} (stb : Bool) (held input : α) : α := if stb then input else held

/-- What the three 8282 hold together, the system's address bus: A19 to A0 and #BHE, 21 signals (R240). -/
structure SystemAddress where
  a : Addr
  bhe : Bool
  deriving DecidableEq, Repr

/-- The inputs of the latches in a state of a cycle: in T1 the address and #BHE, if the cycle has them; afterwards the
pins carry data and status, which are no address (R95). -/
def BusCycle.latchInput (c : BusCycle) (t : TState) : Option SystemAddress :=
  match t.phase, c.addr, c.bhe with
  | .address, some a, some bhe => some { a, bhe }
  | _, _, _ => none

/-- The system's address bus in the states of a cycle, STB being ALE: what T1 brings is held to T4 (R240). -/
def BusCycle.addressBus (c : BusCycle) : Option SystemAddress → List TState → List (Option SystemAddress)
  | _, [] => []
  | held, t :: ts =>
    let now := latch (c.kind.alePin t) held (c.latchInput t)
    now :: c.addressBus now ts

/-! ## 8286 transceivers -/

/-- Which way an 8286 passes data: with its enable active, T at 1 is away from the CPU, 0 toward it (R67, R241). -/
def transceiver (enabled t : Bool) : Transfer := if enabled then (if t then .transmit else .receive) else .idle

/-- DT/#R in a cycle: the CPU's in minimum mode, the 8288's, which is the same, in maximum mode (R67, R235). -/
def BusKind.dtR (k : BusKind) : Option Bool := k.strobes.dtR

/-- Whether the enable of the transceivers is active in a cycle's data part: #DEN at 0 in minimum mode, DEN of the 8288 at
1 in maximum mode (R68, R241). DEN, DT/#R and ALE of the 8288 do not depend on CEN and #AEN, which enable its commands
(R231, log entry 51). -/
def BusKind.dataEnabled (mode : Mode) (k : BusKind) : Bool :=
  match mode with
  | .minimum => !k.strobes.den
  | .maximum => k.denHigh

/-- Which way the two 8286 pass data in a cycle, T being DT/#R (R241). -/
def BusKind.dataPath (mode : Mode) (k : BusKind) : Transfer :=
  match k.dtR with
  | some t => transceiver (k.dataEnabled mode) t
  | none => .idle

/-- One 8286, between eight of AD15 to AD0 and their byte of the system's data bus: what stands on the two sides, from
what each side drives (R241). -/
def passByte (x : Transfer) (cpu system : Option Byte) : Option Byte × Option Byte :=
  match x with
  | .transmit => (cpu, cpu)
  | .receive => (system, system)
  | .idle => (cpu, system)

/-- The two 8286, a device for each byte of the data bus: AD15 to AD0, and the system's data bus (R241). -/
def passData (x : Transfer) (cpu system : Lanes) : Lanes × Lanes :=
  let l := passByte x cpu.low system.low
  let h := passByte x cpu.high system.high
  ({ low := l.1, high := h.1 }, { low := l.2, high := h.2 })

/-! ## Memory banks -/

/-- The bank that holds an address takes part: the even one when A0 is 0, the odd one when #BHE is 0 (R122). -/
def bankSelect (a0 bhe : Bool) : Bool × Bool := (!a0, !bhe)

/-- The row of an address in its bank: A19 to A1 (R122, R146). -/
def bankRow (a : Addr) : BitVec 19 := a.extractLsb' 1 19

/-- The banks the latched address selects (R122, R240). -/
def SystemAddress.banks (s : SystemAddress) : Bool × Bool := bankSelect (s.a.getLsbD 0) s.bhe

/-! ## The two example systems (R245, R246)

Which block an address selects is the decoding the figures do not draw: it is the parameter `MemMap` (R10, N15). What else
the lost wires leave open is log entry 49. -/

/-- The orders the memory and I/O blocks of a system take; `true` says the order is active. -/
structure Orders where
  memRead : Bool
  memWrite : Bool
  ioRead : Bool
  ioWrite : Bool
  deriving DecidableEq, Repr

/-- No order. -/
def Orders.none : Orders := { memRead := false, memWrite := false, ioRead := false, ioWrite := false }

/-- Minimum mode: #RD and #WR of the CPU, with M/#IO (R245). -/
def Strobes.orders (s : Strobes) : Orders :=
  { memRead := decide (s.mIo = some true) && !s.rd, memWrite := decide (s.mIo = some true) && !s.wr,
    ioRead := decide (s.mIo = some false) && !s.rd, ioWrite := decide (s.mIo = some false) && !s.wr }

/-- Maximum mode: #MRDC, #MWTC, #IORC and #IOWC of the 8288 (R246). -/
def Commands.orders (c : Commands) : Orders :=
  { memRead := c.mrdc, memWrite := c.mwtc, ioRead := c.iorc, ioWrite := c.iowc }

/-- The orders of a cycle in the system of a mode: in maximum mode the 8288 decodes #S2 #S1 #S0 (R245, R246). -/
def BusKind.orders (mode : Mode) (ctl : ControllerInputs) (k : BusKind) : Orders :=
  match mode with
  | .minimum => k.strobes.orders
  | .maximum => (ctl.commands (kindOfStatus k.status)).orders

/-- #INTA in the system of a mode, `true` when active: the CPU's, or the 8288's (R245, R246). -/
def BusKind.acknowledges (mode : Mode) (ctl : ControllerInputs) (k : BusKind) : Bool :=
  match mode with
  | .minimum => !k.strobes.inta
  | .maximum => (ctl.commands (kindOfStatus k.status)).inta

/-- The select and order inputs of the blocks RAM (2), PROM (2) and E/S; `true` says the input is active. The E/S block
has no #CS (log entry 49). -/
structure Blocks where
  /-- #CSDL: the RAM of the even bank. -/
  csdl : Bool
  /-- #CSDH: the RAM of the odd bank. -/
  csdh : Bool
  ramRead : Bool
  ramWrite : Bool
  /-- The one #CS of the PROM pair, without a byte select. -/
  promCs : Bool
  promRead : Bool
  ioRead : Bool
  ioWrite : Bool
  deriving DecidableEq, Repr

/-- Something of a kind answers at the address, in the banks that take part: the even bank holds the address with A0 = 0,
the odd bank the one with A0 = 1 (R122). -/
def SystemAddress.selects (p : Params) (k : MemKind) (s : SystemAddress) : Bool × Bool :=
  (s.banks.1 && decide (p.kindAt (s.a &&& ~~~1#20) = k), s.banks.2 && decide (p.kindAt (s.a ||| 1#20) = k))

/-- The blocks with an address on the system's address bus and orders from the CPU or the 8288: the RAM pair is selected
by bytes, with A0 and #BHE, because it is written; the PROM pair as a whole, where a byte that takes part lies in it
(R123, R245, R246). A select is active during a memory order only (log entry 49). -/
def blocks (p : Params) (address : Option SystemAddress) (o : Orders) : Blocks :=
  let select (k : MemKind) : Bool × Bool :=
    match address with
    | some s => if o.memRead || o.memWrite then s.selects p k else (false, false)
    | none => (false, false)
  { csdl := (select .ram).1, csdh := (select .ram).2, ramRead := o.memRead, ramWrite := o.memWrite,
    promCs := (select .rom).1 || (select .rom).2, promRead := o.memRead,
    ioRead := o.ioRead, ioWrite := o.ioWrite }

/-- An example system in the data part of a bus cycle of its CPU. -/
structure SystemView where
  /-- READY and RESET of the 8284, to the CPU. -/
  ready : Bool
  reset : Bool
  /-- CLK of the 8284, to the CPU and the 8288, in Hz. -/
  clk : Nat
  /-- What the three 8282 hold. -/
  address : Option SystemAddress
  /-- AD15 to AD0, and the data bus behind the two 8286. -/
  cpuData : Lanes
  systemData : Lanes
  blocks : Blocks
  inta : Bool
  deriving DecidableEq, Repr

/-- The data the CPU puts on AD15 to AD0 in a cycle's data part (R174, R175). -/
def BusCycle.driven (c : BusCycle) : Lanes := if c.kind.transfer = .transmit then c.data else .none

/-- The data the addressed device puts on the system's data bus (R174, R176). -/
def BusCycle.answered (c : BusCycle) : Lanes := if c.kind.transfer = .receive then c.data else .none

/-- The example system of the mode MN/#MX straps: CPU, 8284, three 8282 with STB from ALE, two 8286 with T from DT/#R,
the RAM and PROM pairs and the I/O block, and in maximum mode the 8288 (R245, R246). `held` is what the latches held
before, `crystal` the frequency of the crystal or of EFI. -/
def exampleSystem (p : Params) (clock : ClockInputs) (crystal : Nat) (ctl : ControllerInputs)
    (held : Option SystemAddress) (c : BusCycle) : SystemView :=
  let address := ((c.addressBus held c.states).getLast?).getD held
  let data := passData (c.kind.dataPath p.mode) c.driven c.answered
  { ready := clock.ready, reset := clock.reset, clk := clkFrequency crystal, address,
    cpuData := data.1, systemData := data.2,
    blocks := blocks p address (c.kind.orders p.mode ctl), inta := c.kind.acknowledges p.mode ctl }

end Sys2Proof.Machine
end

