-- ==== Sys2Proof/Machine/Platform.lean ====
section
/-! DEFINITION. The PC platform the source describes around the CPU, as far as it says anything a model can hold: the
ISA connector, the ISA cycle table, the CPU's signals under their ISA names, and the platform signals that reach the
CPU (`66_pc_platform_buses.md`, log entry 35). No step of the CPU depends on it (R570). -/

namespace Sys2Proof.Machine

/-- Contacts A1 to A31 of the 62-contact ISA connector (R580). -/
def isaRowA : List String :=
  ["I/O_CH_CK#", "SD7", "SD6", "SD5", "SD4", "SD3", "SD2", "SD1", "SD0", "I/O_CH_RDY", "AEN"] ++
  ["SA19", "SA18", "SA17", "SA16", "SA15", "SA14", "SA13", "SA12", "SA11", "SA10"] ++
  ["SA9", "SA8", "SA7", "SA6", "SA5", "SA4", "SA3", "SA2", "SA1", "SA0"]

/-- Contacts B1 to B31 (R580). -/
def isaRowB : List String :=
  ["GND", "RESET DRV", "+5 V", "IRQ2", "-5 V", "DRQ2", "-12 V", "0WS", "+12 V", "GND", "SMEMW#"] ++
  ["SMEMR#", "IOW#", "IOR#", "DACK3#", "DRQ3", "DACK1#", "DRQ1", "REFRESH#", "CLK", "IRQ7"] ++
  ["IRQ6", "IRQ5", "IRQ4", "IRQ3", "DACK2#", "T/C", "BALE", "+5 V", "OSC", "GND"]

/-- Contacts C1 to C18 of the 36-contact extension (R581). -/
def isaRowC : List String :=
  ["SBHE", "LA23", "LA22", "LA21", "LA20", "LA19", "LA18", "LA17", "MEMR#", "MEMW#"] ++
  ["SD8", "SD9", "SD10", "SD11", "SD12", "SD13", "SD14", "SD15"]

/-- Contacts D1 to D18 (R581). -/
def isaRowD : List String :=
  ["MEM_CS16#", "I/O_CS16#", "IRQ10", "IRQ11", "IRQ12", "IRQ15", "IRQ14", "DACK0#", "DRQ0", "DACK5#"] ++
  ["DRQ5", "DACK6#", "DRQ6", "DACK7#", "DRQ7", "+5 V", "MASTER#", "GND"]

/-- An ISA transfer: to memory or to I/O, of 16 or of 8 bits, normal or 0WS (R605). -/
structure IsaCycle where
  memory : Bool
  wide : Bool
  zeroWait : Bool
  deriving DecidableEq, Repr

/-- The wait states of an ISA cycle; a normal 8-bit cycle has 4 (R606, `90_conflicts.md` C5). -/
def IsaCycle.waits (c : IsaCycle) : Nat :=
  if c.wide then (if c.memory && c.zeroWait then 0 else 1) else if c.zeroWait then 1 else 4

/-- The bus clocks of an ISA cycle (R606). -/
def IsaCycle.clocks (c : IsaCycle) : Nat := 2 + c.waits

/-- The rate of an ISA cycle in bytes a second, at a bus clock of `hz` (R606). -/
def IsaCycle.rate (c : IsaCycle) (hz : Nat) : Nat := (if c.wide then 2 else 1) * hz / c.clocks

/-- The event at the CPU when the ISA line #IO_CH_CK takes a level: at 0 it causes an NMI (R598). -/
def ioChCk (level : Bool) : Event := .nmi (!level)

/-- READY as a card asks for it: IO_CH_RDY at 1 inserts no wait state (R602). -/
def readyFromCard (ioChRdy : Bool) : Bool := ioChRdy

/-- A 24-bit address lies below 1 MB, inside the 8086's address space (R588). -/
def belowOneMegabyte (a : BitVec 24) : Bool := decide (a.toNat < 2 ^ 20)

/-- The read and write commands of the ISA bus; `true` says the command is active, its line then being 0 (R587 to
R589). -/
structure IsaCommands where
  memr : Bool
  memw : Bool
  smemr : Bool
  smemw : Bool
  ior : Bool
  iow : Bool
  deriving DecidableEq, Repr

/-- The commands for a 24-bit address: #MEMR and #MEMW are the memory orders at any address, #SMEMR and #SMEMW the same
below 1 MB; #IOR and #IOW are the I/O orders (R587 to R589). -/
def Orders.isa (o : Orders) (a : BitVec 24) : IsaCommands :=
  { memr := o.memRead, memw := o.memWrite, smemr := o.memRead && belowOneMegabyte a,
    smemw := o.memWrite && belowOneMegabyte a, ior := o.ioRead, iow := o.ioWrite }

/-- The signals under which the CPU reaches an expansion card in a state of a bus cycle (R616 (a)). -/
structure IsaSignals where
  /-- SA19 to SA0: the demultiplexed address (R582). -/
  sa : Option Addr
  /-- SD15 to SD0: the demultiplexed data (R584). -/
  sd : Lanes
  /-- BALE: ALE (R603). -/
  bale : Bool
  /-- #SBHE: #BHE (R595). -/
  sbhe : Option Bool
  commands : IsaCommands
  /-- RESET_DRV: RESET of the 8284 (R601). -/
  resetDrv : Bool
  /-- OSC, in Hz (R586). -/
  osc : Nat
  /-- CLK of the 8284, in Hz (R616 (a)). -/
  clk : Nat
  deriving DecidableEq, Repr

/-- The ISA signals of a bus cycle in one of its states, on the system built round the CPU; the commands are active in
the data part (R172, R616 (a)). The rate of 8 MHz that R585 names for the bus clock of later machines is a parameter of
`IsaCycle.rate`. -/
def isaSignals (p : Params) (clock : ClockInputs) (crystal : Nat) (ctl : ControllerInputs) (held : Option SystemAddress)
    (c : BusCycle) (t : TState) : IsaSignals :=
  let v := exampleSystem p clock crystal ctl held c
  let o : Orders := if t.phase = .data then c.kind.orders p.mode ctl else .none
  { sa := v.address.map SystemAddress.a
    sd := if t.phase = .data then v.systemData else .none
    bale := c.kind.alePin t
    sbhe := v.address.map SystemAddress.bhe
    commands := o.isa (match v.address with | some s => s.a.setWidth 24 | none => 0)
    resetDrv := v.reset
    osc := oscFrequency crystal
    clk := v.clk }

/-- READY of the CPU in a system whose 8284 takes IO_CH_RDY on RDY1, enabled by #AEN1 at 0 (R224, R602, R616 (a)). -/
def readyOfCard (ioChRdy : Bool) : Bool :=
  ClockInputs.ready { rdy1 := readyFromCard ioChRdy, aen1 := false, rdy2 := false, aen2 := true, res := true }

end Sys2Proof.Machine
end

