-- ==== Sys2Proof/Safety.lean ====
section
/-! DEFINITION. What every state of a run satisfies, and the terms in which claims speak of a run: a machine left
alone, the end of a run, the premise on programs after reset. -/

namespace Sys2Proof.Machine

/-- The bus ownership fits the mode and the handshakes (R41, R190, R192). -/
def State.busFits (s : State) : Prop :=
  (s.owner = .hold → s.params.mode = .minimum ∧ s.pins.hold = true) ∧
  (s.owner = .ext0 ↔ s.ch0 = .granted) ∧
  (s.owner = .ext1 ↔ s.ch1 = .granted) ∧
  (s.params.mode = .minimum → s.ch0 = .idle ∧ s.ch1 = .idle)

/-- A cycle that hangs is one of a CPU that has the bus and no READY (R182). -/
def State.stuckFits (s : State) : Prop := s.stuck ≠ none → s.hung = true ∧ s.owner = .cpu

/-- What holds outside the registers: memory in its canonical form (R120), at most six bytes queued (R45), a bus ownership
the handshakes allow, and a cycle that hangs only where READY does not come. -/
def State.worldFits (s : State) : Prop :=
  Memory.wf s.mem = true ∧ s.queue.length ≤ 6 ∧ s.busFits ∧ s.stuckFits

/-- What can be in progress between two turns: a `WAIT`, or a string instruction under a repeat prefix (R528 (d)). -/
def State.progressFits (s : State) : Prop :=
  ∀ i, s.inProgress = some i → i = .wait ∨ (takesRepeat i = true ∧ s.armed.rep ≠ none)

/-- The invariant of the machine, between two steps: what holds outside the registers, nothing but a `WAIT` or a repeated
string instruction in progress, and nothing in flight. -/
def State.Inv (s : State) : Prop := s.worldFits ∧ s.progressFits ∧ s.flight = .idle

/-- Nothing happens beside the CPU: it has the bus, READY comes, and nothing is in flight (R152, R182). -/
def State.Quiet (s : State) : Prop := s.flight = .idle ∧ s.hung = false ∧ s.owner = .cpu

/-- The CPU halted for good unless NMI or RESET comes: the end of a run (`92_eei_decisions.md` D16). -/
def State.ended (s : State) : Bool := s.halted && !s.flags.ifl && !s.nmiLatch && decide (s.trap = .none)

/-- What a program has done before it can rely on the stack and the vectors, as far as the state shows it: SS:SP and
the vector table lie in RAM (R625 (b), (d), (e); `92_eei_decisions.md` D24). -/
def State.bootDone (s : State) : Prop :=
  s.kindAt (s.addr .ss (s.reg16 .sp)) = .ram ∧ ∀ t k, k < 4 → s.kindAt (vectorAddr t k) = .ram

end Sys2Proof.Machine
end

