-- ==== Sys2Proof/Certificates/Slice0/Obligations.lean ====
section
/-! DEFINITION. The statements for the provers, each a closed proposition about the model, with the rules of the spec
it formalises in its docstring. Where the bus is used they speak of a CPU beside which nothing happens (`State.Quiet`);
`Obligations.LockExcludesMasters` says what `LOCK` does about other masters. -/

namespace Sys2Proof.Claims

open Machine

/-! ## What an operand holds -/

/-- The byte a read takes from an address: what memory holds, or the `n`-th free byte where nothing is installed
(R145). -/
def loaded (s : State) (a : Addr) (n : Nat) : Byte :=
  if s.kindAt a = .absent then Config.openByte n else s.byteAt a

/-- How many free bytes a read of an address takes. -/
def spent (s : State) (a : Addr) : Nat := if s.kindAt a = .absent then 1 else 0

/-- The word at an offset: low byte at the offset, high byte at the next one of the same segment (R126, R142). -/
def loadedWord (s : State) (g : SegReg) (off : Word) (n : Nat) : Word :=
  loaded s (s.addr g (off + 1)) (n + spent s (s.addr g off)) ++ loaded s (s.addr g off) n

/-- How many free bytes a read of a word takes. -/
def spentWord (s : State) (g : SegReg) (off : Word) : Nat :=
  spent s (s.addr g off) + spent s (s.addr g (off + 1))

/-- The byte operand `rd(E)` (R310). -/
def operand8 (s : State) : Place Reg8 → Byte
  | .reg r => s.reg8 r
  | .mem g off => loaded s (s.addr g off) s.floats

/-- The word operand `rd(E)` (R310). -/
def operand16 (s : State) : Place Reg16 → Word
  | .reg r => s.reg16 r
  | .mem g off => loadedWord s g off s.floats

/-- A source: an `r/m` operand, a register among them, or an immediate. -/
inductive Source (ρ : Type) (n : Nat) where
  | rm (e : RM ρ)
  | imm (v : BitVec n)

/-- The value of a byte source. -/
def source8 (s : State) : Source Reg8 8 → Byte
  | .rm e => operand8 s (s.place e)
  | .imm v => v

/-- The value of a word source. -/
def source16 (s : State) : Source Reg16 16 → Word
  | .rm e => operand16 s (s.place e)
  | .imm v => v

/-! ## What a store leaves -/

/-- The bytes `m` with `v` stored at an address, which only RAM takes (R145, R534). -/
def poke (s : State) (m : Addr → Byte) (a : Addr) (v : Byte) : Addr → Byte :=
  fun b => if b = a ∧ s.kindAt a = .ram then v else m b

/-- The bytes `m` with a word stored at an offset, low byte first, wrapping inside the segment (R126, R142). -/
def pokeWord (s : State) (m : Addr → Byte) (g : SegReg) (off v : Word) : Addr → Byte :=
  poke s (poke s m (s.addr g off) (v.extractLsb' 0 8)) (s.addr g (off + 1)) (v.extractLsb' 8 8)

/-- The general registers after `wr(E, v)` of a byte. -/
def regsAfter8 (s : State) (p : Place Reg8) (v : Byte) : Regs :=
  match p with
  | .reg r => s.regs.put8 r v
  | .mem _ _ => s.regs

/-- The bytes of memory after `wr(E, v)` of a byte. -/
def bytesAfter8 (s : State) (p : Place Reg8) (v : Byte) : Addr → Byte :=
  match p with
  | .reg _ => s.byteAt
  | .mem g off => poke s s.byteAt (s.addr g off) v

/-- The general registers after `wr(E, v)` of a word. -/
def regsAfter16 (s : State) (p : Place Reg16) (v : Word) : Regs :=
  match p with
  | .reg r => s.regs.put16 r v
  | .mem _ _ => s.regs

/-- The bytes of memory after `wr(E, v)` of a word. -/
def bytesAfter16 (s : State) (p : Place Reg16) (v : Word) : Addr → Byte :=
  match p with
  | .reg _ => s.byteAt
  | .mem g off => pokeWord s s.byteAt g off v

/-- `t` is `b` in every field but the flags, which satisfy `status`; memory, whose byte at every address is the one of
`bytes`; the log of bus cycles and the wait states it has used up; and the counters of free values. -/
structure After (b t : State) (bytes : Addr → Byte) (status : Flags → Prop) : Prop where
  frame : t = { b with flags := t.flags, mem := t.mem, draws := t.draws, floats := t.floats, waits := t.waits,
                       log := t.log }
  memory : ∀ a, t.byteAt a = bytes a
  status : status t.flags

/-- The instruction completes, and the state it leaves satisfies `post`. -/
def Completes (i : Instr) (s : State) (post : State → Prop) : Prop := ∃ t, exec i s = .next t ∧ post t

/-! ## Flags (R33, R350, R400) -/

/-- The number of ones in the low 8 bits. -/
def ones {n : Nat} (r : BitVec n) : Nat :=
  (r.getLsbD 0).toNat + (r.getLsbD 1).toNat + (r.getLsbD 2).toNat + (r.getLsbD 3).toNat +
    (r.getLsbD 4).toNat + (r.getLsbD 5).toNat + (r.getLsbD 6).toNat + (r.getLsbD 7).toNat

/-- SF, ZF and PF tell of a result: negative, zero, an even number of ones in its low byte (R350, R400). -/
structure Tells {n : Nat} (r : BitVec n) (g : Flags) : Prop where
  sign : g.sf = true ↔ r.toInt < 0
  zero : g.zf = true ↔ r.toNat = 0
  parity : g.pf = true ↔ ones r % 2 = 0

/-- TF, IF and DF are as before. -/
def Keeps3 (f g : Flags) : Prop := g.tf = f.tf ∧ g.ifl = f.ifl ∧ g.df = f.df

/-- A value is a signed number of `n` bits. -/
def Signed (n : Nat) (x : Int) : Prop := -(2 ^ (n - 1)) ≤ x ∧ x < 2 ^ (n - 1)

/-- What an operation on `n` bits does: the flags before, the destination, the source, the result, the flags after. -/
abbrev Rel := ∀ n : Nat, Flags → BitVec n → BitVec n → BitVec n → Flags → Prop

/-- What a one-operand operation does. -/
abbrev Rel1 := ∀ n : Nat, Flags → BitVec n → BitVec n → Flags → Prop

/-- The carry into an operation that counts it (`ADC`, `SBB`) or does not. -/
def carryIn (counts : Bool) (f : Flags) : Nat := if counts = true ∧ f.cf = true then 1 else 0

/-- A sum: modulo 2^n, CF when it does not fit unsigned, AF when the low digits carry, OF when it does not fit signed
(R350). -/
structure Sum (counts : Bool) (n : Nat) (f : Flags) (a b r : BitVec n) (g : Flags) : Prop where
  value : r.toNat = (a.toNat + b.toNat + carryIn counts f) % 2 ^ n
  carry : g.cf = true ↔ 2 ^ n ≤ a.toNat + b.toNat + carryIn counts f
  half : g.af = true ↔ 16 ≤ a.toNat % 16 + b.toNat % 16 + carryIn counts f
  overflow : g.ofl = true ↔ ¬ Signed n (a.toInt + b.toInt + carryIn counts f)
  tells : Tells r g
  kept : Keeps3 f g

/-- A difference: modulo 2^n, CF and AF the borrows, OF when it does not fit signed (R350). -/
structure Diff (counts : Bool) (n : Nat) (f : Flags) (a b r : BitVec n) (g : Flags) : Prop where
  value : (r.toNat : Int) = ((a.toNat : Int) - b.toNat - carryIn counts f) % 2 ^ n
  borrow : g.cf = true ↔ a.toNat < b.toNat + carryIn counts f
  half : g.af = true ↔ a.toNat % 16 < b.toNat % 16 + carryIn counts f
  overflow : g.ofl = true ↔ ¬ Signed n (a.toInt - b.toInt - carryIn counts f)
  tells : Tells r g
  kept : Keeps3 f g

/-- `INC`: one more, CF as before (R353). -/
structure Inc (n : Nat) (f : Flags) (a r : BitVec n) (g : Flags) : Prop where
  value : r.toNat = (a.toNat + 1) % 2 ^ n
  carry : g.cf = f.cf
  half : g.af = true ↔ a.toNat % 16 = 15
  overflow : g.ofl = true ↔ a.toInt = 2 ^ (n - 1) - 1
  tells : Tells r g
  kept : Keeps3 f g

/-- `DEC`: one less, CF as before (R358). -/
structure Dec (n : Nat) (f : Flags) (a r : BitVec n) (g : Flags) : Prop where
  value : r.toNat = (a.toNat + (2 ^ n - 1)) % 2 ^ n
  carry : g.cf = f.cf
  half : g.af = true ↔ a.toNat % 16 = 0
  overflow : g.ofl = true ↔ a.toInt = -(2 ^ (n - 1))
  tells : Tells r g
  kept : Keeps3 f g

/-- `NEG`: the negated number, the most negative one excepted, which stays and sets OF (R359). -/
structure Neg (n : Nat) (f : Flags) (a r : BitVec n) (g : Flags) : Prop where
  value : r.toNat = (2 ^ n - a.toNat) % 2 ^ n
  borrow : g.cf = true ↔ a.toNat ≠ 0
  half : g.af = true ↔ a.toNat % 16 ≠ 0
  overflow : g.ofl = true ↔ a.toInt = -(2 ^ (n - 1))
  tells : Tells r g
  kept : Keeps3 f g

/-- A logic operation, bit by bit: CF and OF are 0, AF is undefined (R400). -/
structure Logic (op : Bool → Bool → Bool) (n : Nat) (f : Flags) (a b r : BitVec n) (g : Flags) : Prop where
  value : ∀ k, k < n → r.getLsbD k = op (a.getLsbD k) (b.getLsbD k)
  carry : g.cf = false
  overflow : g.ofl = false
  tells : Tells r g
  kept : Keeps3 f g

/-- `NOT`: every bit changes, no flag does (R401). -/
def Complement (n : Nat) (f : Flags) (a r : BitVec n) (g : Flags) : Prop :=
  (∀ k, k < n → r.getLsbD k = !(a.getLsbD k)) ∧ g = f

/-- SF, ZF, AF and PF are as before: a rotate (R405 to R408). -/
def KeepsResultFlags (f g : Flags) : Prop := g.sf = f.sf ∧ g.zf = f.zf ∧ g.af = f.af ∧ g.pf = f.pf

/-- `SHL` by `k`: multiplication by 2^k; CF is the last bit out; OF, for a count of 1, says the sign changed (R402). -/
structure ShiftedLeft (k n : Nat) (f : Flags) (a r : BitVec n) (g : Flags) : Prop where
  value : r.toNat = a.toNat * 2 ^ k % 2 ^ n
  carry : g.cf = true ↔ a.toNat * 2 ^ k / 2 ^ n % 2 = 1
  overflow : k = 1 → (g.ofl = true ↔ r.msb ≠ a.msb)
  tells : Tells r g
  kept : Keeps3 f g

/-- `SHR` by `k`: unsigned division by 2^k; OF, for a count of 1, is the sign before (R403). -/
structure ShiftedRight (k n : Nat) (f : Flags) (a r : BitVec n) (g : Flags) : Prop where
  value : r.toNat = a.toNat / 2 ^ k
  carry : g.cf = true ↔ a.toNat / 2 ^ (k - 1) % 2 = 1
  overflow : k = 1 → g.ofl = a.msb
  tells : Tells r g
  kept : Keeps3 f g

/-- `SAR` by `k`: signed division by 2^k, rounded down; OF, for a count of 1, is 0 (R404). -/
structure ShiftedSigned (k n : Nat) (f : Flags) (a r : BitVec n) (g : Flags) : Prop where
  value : r.toInt = a.toInt / 2 ^ k
  carry : g.cf = true ↔ a.toInt / 2 ^ (k - 1) % 2 = 1
  overflow : k = 1 → g.ofl = false
  tells : Tells r g
  kept : Keeps3 f g

/-- `ROL` by `k`: bit `j` goes to bit `j + k` modulo `n`; CF is the bit last moved to the bottom (R405). -/
structure RotatedLeft (k n : Nat) (f : Flags) (a r : BitVec n) (g : Flags) : Prop where
  value : ∀ j, j < n → r.getLsbD ((j + k) % n) = a.getLsbD j
  carry : g.cf = r.getLsbD 0
  overflow : k = 1 → (g.ofl = true ↔ r.msb ≠ g.cf)
  results : KeepsResultFlags f g
  kept : Keeps3 f g

/-- `ROR` by `k`: bit `j + k` modulo `n` goes to bit `j`; CF is the bit last moved to the top (R406). -/
structure RotatedRight (k n : Nat) (f : Flags) (a r : BitVec n) (g : Flags) : Prop where
  value : ∀ j, j < n → r.getLsbD j = a.getLsbD ((j + k) % n)
  carry : g.cf = r.msb
  overflow : k = 1 → (g.ofl = true ↔ r.msb ≠ r.getLsbD (n - 2))
  results : KeepsResultFlags f g
  kept : Keeps3 f g

/-- Bit `j` of CF with an operand below it, `n + 1` bits in all (R407). -/
def withCarry {n : Nat} (c : Bool) (a : BitVec n) (j : Nat) : Bool := if j = n then c else a.getLsbD j

/-- `RCL` by `k`: a rotate of the `n + 1` bits CF and operand, to the left (R407). -/
structure CarriedLeft (k n : Nat) (f : Flags) (a r : BitVec n) (g : Flags) : Prop where
  value : ∀ j, j ≤ n → withCarry g.cf r ((j + k) % (n + 1)) = withCarry f.cf a j
  overflow : k = 1 → (g.ofl = true ↔ r.msb ≠ g.cf)
  results : KeepsResultFlags f g
  kept : Keeps3 f g

/-- `RCR` by `k`: the same to the right (R408). -/
structure CarriedRight (k n : Nat) (f : Flags) (a r : BitVec n) (g : Flags) : Prop where
  value : ∀ j, j ≤ n → withCarry g.cf r j = withCarry f.cf a ((j + k) % (n + 1))
  overflow : k = 1 → (g.ofl = true ↔ r.msb ≠ r.getLsbD (n - 2))
  results : KeepsResultFlags f g
  kept : Keeps3 f g

/-! ## Shapes of statements -/

/-- `dst <- op(dst, src)` for bytes: the destination and the flags change, nothing else (R351). -/
def Updates8 (rel : Rel) (i : Instr) (dst : RM Reg8) (src : Source Reg8 8) : Prop :=
  ∀ s : State, s.Quiet → Completes i s fun t => ∃ r,
    After { s with regs := regsAfter8 s (s.place dst) r } t (bytesAfter8 s (s.place dst) r)
      (rel 8 s.flags (operand8 s (s.place dst)) (source8 s src) r)

/-- `dst <- op(dst, src)` for words. -/
def Updates16 (rel : Rel) (i : Instr) (dst : RM Reg16) (src : Source Reg16 16) : Prop :=
  ∀ s : State, s.Quiet → Completes i s fun t => ∃ r,
    After { s with regs := regsAfter16 s (s.place dst) r } t (bytesAfter16 s (s.place dst) r)
      (rel 16 s.flags (operand16 s (s.place dst)) (source16 s src) r)

/-- `op(dst, src)` for bytes, for its flags only: no register and no byte of memory changes (R360, R410). -/
def Inspects8 (rel : Rel) (i : Instr) (dst : RM Reg8) (src : Source Reg8 8) : Prop :=
  ∀ s : State, s.Quiet → Completes i s fun t => ∃ r,
    After s t s.byteAt (rel 8 s.flags (operand8 s (s.place dst)) (source8 s src) r)

/-- `op(dst, src)` for words, for its flags only. -/
def Inspects16 (rel : Rel) (i : Instr) (dst : RM Reg16) (src : Source Reg16 16) : Prop :=
  ∀ s : State, s.Quiet → Completes i s fun t => ∃ r,
    After s t s.byteAt (rel 16 s.flags (operand16 s (s.place dst)) (source16 s src) r)

/-- `dst <- op(dst)` for bytes, in one state. -/
def Changes8 (rel : Rel1) (i : Instr) (dst : RM Reg8) (s : State) : Prop :=
  Completes i s fun t => ∃ r,
    After { s with regs := regsAfter8 s (s.place dst) r } t (bytesAfter8 s (s.place dst) r)
      (rel 8 s.flags (operand8 s (s.place dst)) r)

/-- `dst <- op(dst)` for words, in one state. -/
def Changes16 (rel : Rel1) (i : Instr) (dst : RM Reg16) (s : State) : Prop :=
  Completes i s fun t => ∃ r,
    After { s with regs := regsAfter16 s (s.place dst) r } t (bytesAfter16 s (s.place dst) r)
      (rel 16 s.flags (operand16 s (s.place dst)) r)

/-- The six forms of the block of R273, and the two immediate forms of group 1, which write their destination. -/
def EightForms (rel : Rel) (rm8r8 : RM Reg8 → Reg8 → Instr) (rm16r16 : RM Reg16 → Reg16 → Instr)
    (r8rm8 : Reg8 → RM Reg8 → Instr) (r16rm16 : Reg16 → RM Reg16 → Instr) (alImm : Byte → Instr)
    (axImm : Word → Instr) (rm8imm : RM Reg8 → Byte → Instr) (rm16imm : RM Reg16 → Word → Instr) : Prop :=
  (∀ e r, Updates8 rel (rm8r8 e r) e (.rm (.reg r))) ∧ (∀ e r, Updates16 rel (rm16r16 e r) e (.rm (.reg r))) ∧
  (∀ r e, Updates8 rel (r8rm8 r e) (.reg r) (.rm e)) ∧ (∀ r e, Updates16 rel (r16rm16 r e) (.reg r) (.rm e)) ∧
  (∀ v, Updates8 rel (alImm v) (.reg .al) (.imm v)) ∧ (∀ v, Updates16 rel (axImm v) (.reg .ax) (.imm v)) ∧
  (∀ e v, Updates8 rel (rm8imm e v) e (.imm v)) ∧ (∀ e v, Updates16 rel (rm16imm e v) e (.imm v))

/-- The other two immediate forms of group 1: `82`, and `83` with its byte sign-extended (R274). -/
def TwoMoreForms (rel : Rel) (rm8alt : RM Reg8 → Byte → Instr) (rm16simm : RM Reg16 → Byte → Instr) : Prop :=
  (∀ e v, Updates8 rel (rm8alt e v) e (.imm v)) ∧
  (∀ e v, Updates16 rel (rm16simm e v) e (.imm (v.signExtend 16)))

/-- The two `r/m` forms of a one-operand instruction. -/
def OneOperand (rel : Rel1) (rm8 : RM Reg8 → Instr) (rm16 : RM Reg16 → Instr) : Prop :=
  ∀ s : State, s.Quiet → (∀ e, Changes8 rel (rm8 e) e s) ∧ (∀ e, Changes16 rel (rm16 e) e s)

/-- The four forms of a shift or rotate: the count is 1, or CL, all eight bits of it, and not 0 (R400). -/
def ShiftForms (rel : Nat → Rel1) (one8 : RM Reg8 → Instr) (one16 : RM Reg16 → Instr) (cl8 : RM Reg8 → Instr)
    (cl16 : RM Reg16 → Instr) : Prop :=
  ∀ s : State, s.Quiet →
    (∀ e, Changes8 (rel 1) (one8 e) e s) ∧ (∀ e, Changes16 (rel 1) (one16 e) e s) ∧
    (s.reg8 .cl ≠ 0 → (∀ e, Changes8 (rel (s.reg8 .cl).toNat) (cl8 e) e s) ∧
      (∀ e, Changes16 (rel (s.reg8 .cl).toNat) (cl16 e) e s))

/-! ## Control, the stack and interrupts -/

/-- A transfer inside the segment, or to another one: CS and IP change and the queue is emptied (R450). -/
def jumped (s : State) (cs ip : Word) : State := { s with segs := s.segs.put .cs cs, ip := ip, queue := [] }

/-- SP set. -/
def withSp (s : State) (v : Word) : State := { s with regs := s.regs.put16 .sp v }

/-- A byte displacement from `IP_next` (R450). -/
def shortTarget (s : State) (d : Byte) : Word := s.ip + d.signExtend 16

/-- The bytes after the three pushes of an interrupt sequence: FLAGS, CS, IP, downwards (R530). -/
def framed (s : State) (rcs rip : Word) : Addr → Byte :=
  pokeWord s (pokeWord s (pokeWord s s.byteAt .ss (s.regs.sp - 2) s.flags.image) .ss (s.regs.sp - 4) rcs) .ss
    (s.regs.sp - 6) rip

/-- The word of a vector at byte `k` of its four (R520). -/
def vectorWord (bytes : Addr → Byte) (t : Byte) (k : Nat) : Word :=
  bytes (BitVec.ofNat 20 (4 * t.toNat + k + 1)) ++ bytes (BitVec.ofNat 20 (4 * t.toNat + k))

/-- Something is installed at the four bytes of a vector. -/
def vectorThere (s : State) (t : Byte) : Prop :=
  ∀ k, k < 4 → s.kindAt (BitVec.ofNat 20 (4 * t.toNat + k)) ≠ .absent

/-- The bytes a vector is read from: those after the three pushes, or before them, as `IntSeqBusOrder` says (R530). -/
def vectorBytes (s : State) (rcs rip : Word) : Addr → Byte :=
  if s.params.vectorFirst then s.byteAt else framed s rcs rip

/-- The single step owed after a sequence of type `n` (R529; log entry 23). -/
def owed (s : State) (n : Byte) : Trap :=
  if n = 1 then .none else if s.flags.tf = true ∨ s.trap = .nested then .nested else .none

/-- `t` is `s` after `Interrupt(n)` with the return address `rcs:rip` (R530): SP is 6 less, IF and TF are 0, CS:IP is
the vector's, the queue is empty, the halt is over, the frame is in memory; no other register, flag or byte changes.
A vector where nothing is installed is a free one. -/
def Interrupted (s t : State) (n : Byte) (rcs rip : Word) : Prop :=
  ∃ cs ip : Word,
    t = { jumped (withSp s (s.regs.sp - 6)) cs ip with
      flags := { s.flags with tf := false, ifl := false }, halted := false, trap := owed s n,
      mem := t.mem, draws := t.draws, floats := t.floats, waits := t.waits, log := t.log } ∧
    (∀ a, t.byteAt a = framed s rcs rip a) ∧
    (vectorThere s n → ip = vectorWord (vectorBytes s rcs rip) n 0 ∧ cs = vectorWord (vectorBytes s rcs rip) n 2)

/-- The flags as they were. -/
def Same (f : Flags) : Flags → Prop := fun g => g = f

/-! ## Strings -/

/-- An index register moved past an element of `n` bytes: down with DF = 1, up with DF = 0 (R431). -/
def moved (s : State) (v n : Word) : Word := if s.flags.df = true then v - n else v + n

/-- CX one less under a repeat prefix (R430). -/
def counted (s : State) (g : Regs) : Regs := if s.armed.rep = none then g else g.put16 .cx (s.regs.cx - 1)

/-- Whether more iterations are to come: under a repeat prefix, until CX has reached 0 or a comparison has left ZF other
than the prefix asks (R430). -/
def goesOn (s : State) (i : Instr) (compares : Bool) (zf : Bool) : Option Instr :=
  match s.armed.rep with
  | none => s.inProgress
  | some z => if s.regs.cx = 1 ∨ (compares = true ∧ (zf = true ↔ z = .repne)) then s.inProgress else some i

/-- The state after one element, before memory and flags: the index registers, CX, what is in progress. -/
def iterated (s : State) (i : Instr) (compares : Bool) (zf : Bool) (g : Regs) : State :=
  { s with regs := counted s g, inProgress := goesOn s i compares zf }

/-- A string instruction that can run one element: without a prefix, or with CX not 0 (R430). -/
def Iterates (s : State) : Prop := s.Quiet ∧ (s.armed.rep ≠ none → s.regs.cx ≠ 0)

/-- The segment of a string source: DS, or the override (R431). -/
def sourceSeg (s : State) : SegReg := s.armed.seg.getD .ds

/-- SI and DI moved past an element of `n` bytes. -/
def bothMoved (s : State) (n : Word) : Regs :=
  (s.regs.put16 .si (moved s s.regs.si n)).put16 .di (moved s s.regs.di n)

/-- The offset word of a far pointer in memory (R134, R317). -/
def farOffset (s : State) (m : MemOp) : Word := loadedWord s (s.segOf m) (s.ea m) s.floats

/-- The segment word of a far pointer, two bytes on (R134, R317). -/
def farSelector (s : State) (m : MemOp) : Word :=
  loadedWord s (s.segOf m) (s.ea m + 2) (s.floats + spentWord s (s.segOf m) (s.ea m))

/-! ## Fetching -/

/-- The `k`-th byte of the instruction stream from CS:IP on: the queue's first, then memory's (R45). -/
def streamByte (s : State) (k : Nat) : Byte :=
  if h : k < s.queue.length then s.queue[k] else s.byteAt (s.addr .cs (s.ip + BitVec.ofNat 16 k))

/-- The instruction's bytes stand at CS:IP, in the queue or in memory that is installed. -/
def StandsAt (s : State) (i : Instr) : Prop :=
  ∀ k, (h : k < (encode i).length) →
    streamByte s k = (encode i)[k] ∧
      (s.queue.length ≤ k → s.kindAt (s.addr .cs (s.ip + BitVec.ofNat 16 k)) ≠ .absent)

/-- Nothing comes before the next instruction: the environment is done, nothing is due, waiting, in progress or halted,
and the bus is the CPU's. -/
def Ready (s : State) : Prop :=
  s.script = [] ∧ s.midway = none ∧ s.due = none ∧ s.halted = false ∧ s.inProgress = none ∧ s.hung = false ∧
    s.owner = .cpu

/-- The state an instruction starts in: IP past it, what the boundary left used up, a single step to come if TF is 1, the
offsets of its first byte and of its opcode noted; the queue holds what was fetched beyond it (R45, R527). -/
def started (s u : State) (i : Instr) : Prop :=
  u = { s with
    ip := s.ip + BitVec.ofNat 16 (encode i).length
    queue := u.queue
    shadow := .none
    trap := if s.flags.tf then .stepped else .none
    unstarted := false
    armed := { s.armed with pending := false, opcode := s.ip,
                            start := if s.armed.pending then s.armed.start else s.ip }
    flight := .idle
    floats := u.floats
    waits := u.waits
    log := u.log } ∧
  ∀ k, (h : k < u.queue.length) →
    s.kindAt (s.addr .cs (u.ip + BitVec.ofNat 16 k)) ≠ .absent →
      u.queue[k] = streamByte s ((encode i).length + k)

/-- The boundary an instruction run from `s` leaves, `t` being the state its meaning gives: after a prefix byte, and in a
`WAIT` that goes on, the shadow and the single step of `s` stand; a string instruction that goes on keeps the shadow; an
instruction that is over uses up its prefixes (R46, R527, R528; log entries 8 and 24). -/
def boundary (s t : State) : State :=
  if t.armed.pending then { t with shadow := s.shadow, trap := s.trap, flight := .idle }
  else
    match t.inProgress with
    | some .wait => { t with shadow := s.shadow, trap := s.trap, flight := .idle }
    | some _ => { t with shadow := s.shadow, flight := .idle }
    | none => { t with
        locked := false, flight := .idle,
        armed := { t.armed with pending := false, seg := none, rep := none } }

/-! ## Recognition -/

/-- An interrupt can be recognised at this point: not before the first instruction after RESET, not between a prefix and
its instruction, not in the shadow of a segment-register load, not where a `WAIT` sees #TEST active (R528, R620, R301);
and the CPU can run bus cycles. -/
def Listens (s : State) : Prop :=
  s.script = [] ∧ s.midway = none ∧ s.hung = false ∧ s.owner = .cpu ∧ s.unstarted = false ∧ s.armed.pending = false ∧ s.shadow ≠ .all ∧
    ¬ (s.inProgress = some .wait ∧ s.pins.test = false)

/-- INTR is recognised: it is at 1, IF is 1, and `STI` has not just run (R523, R528). -/
def IntrDue (s : State) : Prop := s.pins.intr = true ∧ s.flags.ifl = true ∧ s.shadow ≠ .intr

/-- The instruction in progress given up, with its prefixes; the NMI latch set as given (R641). -/
def givenUp (s : State) (latch : Bool) : State :=
  { s with nmiLatch := latch, inProgress := none, shadow := .none, locked := false, flight := .idle,
           armed := { s.armed with pending := false, seg := none, rep := none } }

/-- The offset saved: the first byte of a `WAIT`, the last prefix of a string instruction, or the next instruction
(R301, R430, R521). -/
def savedOffset (s : State) : Word :=
  match s.inProgress with
  | some .wait => s.armed.start
  | some _ => s.armed.opcode - 1
  | none => s.ip

/-- An acknowledge cycle: no address and so no #BHE, #LOCK active in maximum mode (R176, R532). -/
def ackCycle (s : State) (type : Option Byte) (waits : Nat) : BusCycle :=
  { kind := .inta, addr := none, bhe := none, data := { low := type, high := none }, seg := none, s5 := s.flags.ifl,
    lock := decide (s.params.mode = .maximum), waits }

/-! ## Bus cycles and RESET -/

/-- A cycle of an access, with the level of #BHE and the data on each half of the bus (R99, R121, R170). -/
def accessCycle (s : State) (kind : BusKind) (a : Addr) (bhe : Bool) (low high : Option Byte) (seg : Option SegReg)
    (waits : Nat) : BusCycle :=
  { kind, addr := some a, bhe := some bhe, data := { low, high }, seg, s5 := s.flags.ifl, lock := s.lockActive, waits }

/-- What RESET leaves, but for memory, devices and the general registers (R51, R620). -/
structure Fresh (t : State) : Prop where
  segs : t.segs = { es := 0, cs := 0xFFFF, ss := 0, ds := 0 }
  ip : t.ip = 0
  flags : t.flags = { cf := false, pf := false, af := false, zf := false, sf := false, tf := false, ifl := false,
                      df := false, ofl := false }
  queue : t.queue = []
  halted : t.halted = false
  locked : t.locked = false
  armed : t.armed = { pending := false, seg := none, rep := none, start := 0, opcode := 0 }
  inProgress : t.inProgress = none
  nmiLatch : t.nmiLatch = false
  shadow : t.shadow = .none
  trap : t.trap = .none
  unstarted : t.unstarted = true
  owner : t.owner = .cpu
  ch0 : t.ch0 = .idle
  ch1 : t.ch1 = .idle
  hung : t.hung = false
  stuck : t.stuck = none
  midway : t.midway = none
  flight : t.flight = .idle

/-- The bytes of memory after the halves of a memory write cycle at an address have landed or not: the byte of the low
half of the bus at the address, that of the high half at the address too, or at the next one where both take part. -/
def landed (s : State) (a : Addr) (d : Lanes) (low high : Bool) : Addr → Byte :=
  let m : Addr → Byte := match d.low with
    | some v => if low = true then poke s s.byteAt a v else s.byteAt
    | none => s.byteAt
  match d.high with
    | some v => if high = true then poke s m (if d.low = none then a else a + 1) v else m
    | none => m

/-- What other masters do at the bus: a grant to them, their cycles, their release (R199). -/
def Foreign (e : Event) : Prop := e = .grant ∨ (∃ op, e = .master op) ∨ ∃ ch, e = .release ch

/-- The stack frame an interrupt sequence pushes lies in RAM. -/
def FrameInRam (s : State) : Prop :=
  ∀ k : Nat, k < 6 → s.kindAt (s.addr .ss (s.regs.sp - 6 + BitVec.ofNat 16 k)) = .ram

/-! ## Shapes used once -/

/-- A signed division: the quotient truncated toward zero, a remainder with the sign of the dividend, smaller than the
divisor (R367). -/
structure Divides (a b q r : Int) : Prop where
  sum : a = q * b + r
  small : r.natAbs < b.natAbs
  sign : r = 0 ∨ (0 < r ∧ 0 < a) ∨ (r < 0 ∧ a < 0)

/-- The number two packed digits stand for. -/
def decimal (v : Byte) : Nat := 10 * (v.toNat / 16) + v.toNat % 16

/-- A byte is two packed decimal digits. -/
def Packed (v : Byte) : Prop := v.toNat / 16 ≤ 9 ∧ v.toNat % 16 ≤ 9

/-- A byte stored in an `r/m` operand, and nothing else done. -/
def Stores8 (i : Instr) (s : State) (dst : RM Reg8) (v : Byte) : Prop :=
  Completes i s fun t =>
    After { s with regs := regsAfter8 s (s.place dst) v } t (bytesAfter8 s (s.place dst) v) (Same s.flags)

/-- A word stored in an `r/m` operand, and nothing else done. -/
def Stores16 (i : Instr) (s : State) (dst : RM Reg16) (v : Word) : Prop :=
  Completes i s fun t =>
    After { s with regs := regsAfter16 s (s.place dst) v } t (bytesAfter16 s (s.place dst) v) (Same s.flags)

/-- A short jump on a condition: taken, to `IP_next` plus the signed byte with an empty queue; not taken, nothing. -/
def JumpsWhen (i : Byte → Instr) (s : State) (base : State) (c : Prop) : Prop :=
  ∀ d : Byte,
    (c → Completes (i d) s fun t => t = { jumped base s.segs.cs (shortTarget s d) with log := t.log }) ∧
    (¬ c → exec (i d) s = .next base)

end Sys2Proof.Claims

open Sys2Proof Sys2Proof.Machine Sys2Proof.Claims

/-! ## Encoding -/

/-- Words written out from the encodings of R273 and R274 (and R262, R264 for their operands) decode to the
instructions they stand for. -/
def Obligations.DecodesSpecWords : Prop :=
  decode [0xB8, 0x34, 0x12] = some (.movR16Imm16 .ax 0x1234, []) ∧
  decode [0x8D, 0x40, 0x05] = some (.lea .ax (.based .bxsi (.d8 5)), []) ∧
  decode [0xC5, 0x36, 0x00, 0x03] = some (.lds .si (.direct 0x0300), []) ∧
  decode [0xFE, 0xC3] = some (.incRm8 (.reg .bl), []) ∧
  decode [0xF7, 0xBE, 0x34, 0x12] = some (.idivRm16 (.mem (.based .bp (.d16 0x1234))), []) ∧
  decode [0xD2, 0xE0] = some (.shlRm8Cl (.reg .al), []) ∧
  decode [0x83, 0xC3, 0xFF] = some (.addRm16Simm8 (.reg .bx) 0xFF, []) ∧
  decode [0xA5] = some (.movsw, []) ∧
  decode [0xEA, 0x00, 0x00, 0x00, 0xF0] = some (.jmpFar 0x0000 0xF000, []) ∧
  decode [0xD9, 0x06, 0x00, 0x10] = some (.esc 0x08 (.mem (.direct 0x1000)), []) ∧
  decode [0xF4] = some (.hlt, [])

/-- Every well-formed instruction is what its bytes decode to, whatever bytes follow: no bit of an operand is lost
(R260 to R274, R279). -/
def Obligations.DecodeOfEncode : Prop :=
  ∀ (i : Instr) (rest : List Byte), i.wf = true → decode (encode i ++ rest) = some (i, rest)

/-- What the decoder reads is well-formed, and its bytes are the ones read: no two byte sequences are one instruction
(R260 to R275, R279). -/
def Obligations.EncodeOfDecode : Prop :=
  ∀ (bs rest : List Byte) (i : Instr), decode bs = some (i, rest) → i.wf = true ∧ bs = encode i ++ rest

/-- Six bytes are always an instruction, an encoding Intel does not use among them, and none is longer (R260). -/
def Obligations.SixBytesDecode : Prop :=
  ∀ bs : List Byte, bs.length = 6 → ∃ i rest, decode bs = some (i, rest) ∧ 1 ≤ (encode i).length ∧ (encode i).length ≤ 6

/-! ## The machine as a whole -/

/-- Where a well-formed instruction stands at CS:IP and nothing comes before it, a step runs `exec` of it in the state
whose IP is past it, and leaves the boundary after it; a prefix that is not documented before it makes it refused
instead (R32, R45, R46, R260, R271, R275, R527). This is the model's form: that a prefix is a step of its own is log
entry 8, which prefixes are documented (`s.admits`) log entry 9, that the shadow and the single step are kept across a
prefix, a waiting `WAIT` and iterations log entry 24. -/
def Obligations.StepRunsDecoded : Prop :=
  ∀ (i : Instr) (s : State), i.wf = true → Ready s → StandsAt s i →
    ∃ u, started s u i ∧
      (s.admits i = true → ∀ t, exec i u = .next t → step s = .next (boundary s t)) ∧
      (s.admits i = true → ∀ f, exec i u = .fault f → step s = .fault f) ∧
      (s.admits i = true → ∀ q, exec i u = .refused q → step s = .refused q) ∧
      (s.admits i = false → step s = .refused .undocumentedPrefix)

/-- After reset execution starts at FFFF:0000, physical FFFF0H (R50). -/
def Obligations.ResetStartsAtTop : Prop :=
  State.reset.segs.cs = 0xFFFF ∧ State.reset.ip = 0x0000 ∧
    (State.reset.addr .cs State.reset.ip).toNat = 0xFFFF0

/-- RESET leaves CS:IP = FFFF:0000, the other segment registers and every flag 0, an empty queue, no halt, lock, prefix,
latch, shadow, single step or instruction in progress, the channels idle and the bus the CPU's; the input levels and the
parameters stay (R51, R620). So it does between two turns, where memory and devices stay unless a cycle hangs; of a memory
write cycle that hangs the byte on each half of the bus lands or does not, and another cycle that hangs leaves memory as
it was (R650, U23). So it does, too, when it comes in the middle of an instruction, whose past cycles stay done; the write
of a word at an even address that is cut there leaves each of its bytes old or new. The general registers take free values
(log entry 22); the channels and the single step are log entry 43. -/
def Obligations.ResetLeaves : Prop :=
  (∀ (s : State) (low high : Bool) (rest : List Move), s.script = .env (.reset low high) :: rest →
    ∃ t, step s = .next t ∧ Fresh t ∧ t.pins = s.pins ∧ t.params = s.params ∧ t.script = rest ∧
      (s.stuck = none → t.mem = s.mem ∧ t.devices = s.devices) ∧
      (∀ c, s.stuck = some c →
        (∀ a, c.kind = .memw → c.addr = some a → t.byteAt = landed s a c.data low high) ∧
        (c.kind ≠ .memw → t.mem = s.mem) ∧ (c.kind ≠ .iow → t.devices = s.devices))) ∧
  (∀ (s u : State) (gaps : List (List Event)) (rest : List Move), s.script = .cpu gaps :: rest →
    State.cpuTurn .layerG { s with script := rest } gaps = .next u → u.flight.cut ≠ none →
      ∃ t, step s = .next t ∧ Fresh t ∧ t.pins = u.pins ∧ t.params = u.params ∧ t.script = u.script ∧ t.mem = u.mem ∧
        t.devices = u.devices ∧ t.log.cycles = u.log.cycles) ∧
  (∀ (s : State) (g : SegReg) (off v : Word) (low high : Bool), s.hung = false → s.owner = .cpu → s.stuck = none →
    s.flight = { Flight.idle with gaps := [[.reset low high]] } → (s.addr g off).toNat % 2 = 0 →
      let t := s.writeMem16 g off v
      t.flight.cut = some (low, high) ∧ t.log = s.log ∧ ∀ a, t.byteAt a =
        if a = s.addr g off ∧ low = true ∧ s.kindAt a = .ram then v.extractLsb' 0 8
        else if a = s.addr g (off + 1) ∧ high = true ∧ s.kindAt a = .ram then v.extractLsb' 8 8 else s.byteAt a)

/-- The invariant holds after reset. -/
def Obligations.ResetInvariant : Prop := State.reset.Inv

/-- Every step, the CPU's or the environment's, keeps the invariant: memory stays in its canonical form inside 2^20
bytes (R120), at most six bytes are queued (R45), the bus ownership fits the mode and the handshakes (R41, R190, R192,
R193), a cycle hangs only where READY does not come to a CPU that has the bus (R182), nothing but a `WAIT` or a repeated
string instruction is in progress between two turns (R528), and nothing is in flight between two steps. -/
def Obligations.StepKeepsInvariant : Prop := ∀ s t : State, s.Inv → step s = .next t → t.Inv

/-- While #LOCK is active, what other masters would do between the bus cycles of an instruction changes nothing of what
it does: every instruction runs as where they do nothing (R154, R198, R300). That an interrupt sequence which a locked instruction raises
is locked too, as part of it, is log entry 45. -/
def Obligations.LockExcludesMasters : Prop :=
  ∀ (i : Instr) (s t : State) (a b : List (List Event)), s.lockActive = true → s.hung = false → s.owner = .cpu →
    s.ch0 ≠ .granted → s.ch1 ≠ .granted → (∀ es ∈ a ++ b, ∀ e ∈ es, Foreign e) →
      exec i { s with flight := { Flight.idle with gaps := a } } = .next t →
        ∃ n, t.flight = { Flight.idle with gaps := a.drop n } ∧
          exec i { s with flight := { Flight.idle with gaps := b } } =
            .next { t with flight := { Flight.idle with gaps := b.drop n } }

/-- Every instruction completes, in every state, neither faulting nor refusing, but for two things: an encoding Intel does
not use, and a word `IN` or `OUT` at port FFFFH (R275, R322, R323, R534). Where the bus is ceded or READY does not come,
that `exec` answers a next state is the model's choice (log entry 37): the meaning is run to its end without touching
the bus, nothing of what it does beyond the cycle it needs is kept by the turn, and the task waits (R182, R199). -/
def Obligations.ExecCompletes : Prop :=
  ∀ (i : Instr) (s : State),
    (∃ t, exec i s = .next t) ↔
      ((∀ op next, i ≠ .notUsed op next) ∧ ¬ ((i = .inAxDx ∨ i = .outDxAx) ∧ s.regs.dx = 0xFFFF))

/-- An encoding Intel does not document is refused by name (R275), and so is a word `IN` or `OUT` at port FFFFH, the
port of whose second byte is not defined (R322, R323). -/
def Obligations.Refusals : Prop :=
  (∀ (op next : Byte) (s : State), exec (.notUsed op next) s = .refused (.undocumentedEncoding op next)) ∧
  (∀ s : State, s.regs.dx = 0xFFFF → exec .inAxDx s = .refused .portWrap ∧ exec .outDxAx s = .refused .portWrap)

/-- The machine faults only where the hardware is stuck: the CPU moves, the environment will do nothing more, and READY
never comes to its next bus cycle (R182) or the bus is ceded for good (R199). -/
def Obligations.FaultsOnlyStuck : Prop :=
  ∀ (s : State) (f : Fault), step s = .fault f →
    s.script = [] ∧
      ((f = .stuckNotReady ∧ s.hung = true ∧ s.owner = .cpu) ∨ (f = .stuckBusCeded ∧ s.owner ≠ .cpu))

/-- While the bus is ceded, or READY does not come, a turn of the CPU in which nothing else happens changes no byte of
memory and no device, and ends no bus cycle: what it needs the bus for waits (R182, R194, R199). -/
def Obligations.BarredTurnTouchesNothing : Prop :=
  ∀ (s u : State), s.barred = true → (s.script = [] ∨ ∃ rest, s.script = .cpu [] :: rest) → step s = .next u →
    u.mem = s.mem ∧ u.devices = s.devices ∧ u.log.cycles = [] ∧ u.owner = s.owner ∧ u.hung = s.hung

/-! ## Addresses, memory and the bus -/

/-- The physical address is 16 times the segment plus the offset, modulo 2^20; FFFF:0000 is FFFF0H (R140). -/
def Obligations.PhysicalAddress : Prop :=
  (∀ (s : State) (g : SegReg) (off : Word), (s.addr g off).toNat = ((s.segReg g).toNat * 2 ^ 4 + off.toNat) % 2 ^ 20) ∧
    (phys 0xFFFF 0x0000).toNat = 0xFFFF0

/-- A write of a word in RAM puts its low byte at the offset and its high byte at the next one of the segment, and
changes no other byte; a read gives the word back, a read of a byte its half (R126, R127, R142, R150). -/
def Obligations.WordsReadBack : Prop :=
  ∀ (s : State) (g : SegReg) (off v : Word), s.Quiet → s.kindAt (s.addr g off) = .ram →
    s.kindAt (s.addr g (off + 1)) = .ram →
      (∀ a, (s.writeMem16 g off v).byteAt a =
        if a = s.addr g (off + 1) then v.extractLsb' 8 8
        else if a = s.addr g off then v.extractLsb' 0 8 else s.byteAt a) ∧
      ((s.writeMem16 g off v).readMem16 g off).1 = v ∧
      ((s.writeMem16 g off v).readMem8 g off).1 = v.extractLsb' 0 8 ∧
      ((s.writeMem16 g off v).readMem8 g (off + 1)).1 = v.extractLsb' 8 8

/-- A byte access is one bus cycle, on D0 to D7 at an even address and on D8 to D15 at an odd one; a word access is one
cycle at an even address and two at an odd one, the low byte first, on the odd half, then the high byte on the even
half. The I/O space has the same cycles, the port on A15 to A0, and uses no segment (R121, R124, R128 to R131, R133). -/
def Obligations.CyclesPerAccess : Prop :=
  ∀ (s : State) (g : SegReg) (off p v : Word) (b : Byte), s.Quiet →
    let a := s.addr g off
    let a' := s.addr g (off + 1)
    let q : Addr := p.setWidth 20
    let q' : Addr := (p + 1).setWidth 20
    let v0 := v.extractLsb' 0 8
    let v1 := v.extractLsb' 8 8
    let r8 := s.readMem8 g off
    let r16 := s.readMem16 g off
    let i8 := s.ioRead8 p
    let i16 := s.ioRead16 p
    let log := s.log.cycles
    (a.toNat % 2 = 0 →
      r8.2.log.cycles = log ++ [accessCycle s .memr a true (some r8.1) none (some g) s.waits] ∧
      (s.writeMem8 g off b).log.cycles = log ++ [accessCycle s .memw a true (some b) none (some g) s.waits] ∧
      r16.2.log.cycles = log ++ [accessCycle s .memr a false (some (r16.1.extractLsb' 0 8))
        (some (r16.1.extractLsb' 8 8)) (some g) s.waits] ∧
      (s.writeMem16 g off v).log.cycles = log ++ [accessCycle s .memw a false (some v0) (some v1) (some g) s.waits]) ∧
    (a.toNat % 2 = 1 →
      r8.2.log.cycles = log ++ [accessCycle s .memr a false none (some r8.1) (some g) s.waits] ∧
      (s.writeMem8 g off b).log.cycles = log ++ [accessCycle s .memw a false none (some b) (some g) s.waits] ∧
      r16.2.log.cycles = log ++ [accessCycle s .memr a false none (some (r16.1.extractLsb' 0 8)) (some g) s.waits,
        accessCycle s .memr a' true (some (r16.1.extractLsb' 8 8)) none (some g) 0] ∧
      (s.writeMem16 g off v).log.cycles = log ++ [accessCycle s .memw a false none (some v0) (some g) s.waits,
        accessCycle s .memw a' true (some v1) none (some g) 0]) ∧
    (p.toNat % 2 = 0 →
      i8.2.log.cycles = log ++ [accessCycle s .ior q true (some i8.1) none none s.waits] ∧
      (s.ioWrite8 p b).log.cycles = log ++ [accessCycle s .iow q true (some b) none none s.waits] ∧
      i16.2.log.cycles = log ++ [accessCycle s .ior q false (some (i16.1.extractLsb' 0 8))
        (some (i16.1.extractLsb' 8 8)) none s.waits] ∧
      (s.ioWrite16 p v).log.cycles = log ++ [accessCycle s .iow q false (some v0) (some v1) none s.waits]) ∧
    (p.toNat % 2 = 1 →
      i8.2.log.cycles = log ++ [accessCycle s .ior q false none (some i8.1) none s.waits] ∧
      (s.ioWrite8 p b).log.cycles = log ++ [accessCycle s .iow q false none (some b) none s.waits] ∧
      (p ≠ 0xFFFF →
        i16.2.log.cycles = log ++ [accessCycle s .ior q false none (some (i16.1.extractLsb' 0 8)) none s.waits,
          accessCycle s .ior q' true (some (i16.1.extractLsb' 8 8)) none none 0] ∧
        (s.ioWrite16 p v).log.cycles = log ++ [accessCycle s .iow q false none (some v0) none s.waits,
          accessCycle s .iow q' true (some v1) none none 0]))

/-- The 8-bit names are the halves of AX, CX, DX and BX; a write to one changes those 8 bits, leaves the other 8 of its
register, and no other register (R31). -/
def Obligations.ByteHalves : Prop :=
  ∀ (g : Regs) (v : Byte),
    (g.get8 .al = g.ax.extractLsb' 0 8 ∧ g.get8 .ah = g.ax.extractLsb' 8 8 ∧
     g.get8 .cl = g.cx.extractLsb' 0 8 ∧ g.get8 .ch = g.cx.extractLsb' 8 8 ∧
     g.get8 .dl = g.dx.extractLsb' 0 8 ∧ g.get8 .dh = g.dx.extractLsb' 8 8 ∧
     g.get8 .bl = g.bx.extractLsb' 0 8 ∧ g.get8 .bh = g.bx.extractLsb' 8 8) ∧
    (g.put8 .al v = { g with ax := g.ax.extractLsb' 8 8 ++ v } ∧ g.put8 .ah v = { g with ax := v ++ g.ax.extractLsb' 0 8 } ∧
     g.put8 .cl v = { g with cx := g.cx.extractLsb' 8 8 ++ v } ∧ g.put8 .ch v = { g with cx := v ++ g.cx.extractLsb' 0 8 } ∧
     g.put8 .dl v = { g with dx := g.dx.extractLsb' 8 8 ++ v } ∧ g.put8 .dh v = { g with dx := v ++ g.dx.extractLsb' 0 8 } ∧
     g.put8 .bl v = { g with bx := g.bx.extractLsb' 8 8 ++ v } ∧ g.put8 .bh v = { g with bx := v ++ g.bx.extractLsb' 0 8 }) ∧
    [Reg8.al, .cl, .dl, .bl, .ah, .ch, .dh, .bh].map Reg8.num = [0, 1, 2, 3, 4, 5, 6, 7]

/-- The effective address is the sum of base, index and displacement modulo 2^16, a byte displacement taken as signed;
the segment is SS where BP takes part, DS elsewhere, or the override (R141, R264, R508). -/
def Obligations.EffectiveAddress : Prop :=
  ∀ (s : State) (d : Byte) (w : Word),
    let sum (b : Base) : Int :=
      match b with
      | .bxsi => s.regs.bx.toNat + s.regs.si.toNat
      | .bxdi => s.regs.bx.toNat + s.regs.di.toNat
      | .bpsi => s.regs.bp.toNat + s.regs.si.toNat
      | .bpdi => s.regs.bp.toNat + s.regs.di.toNat
      | .si => s.regs.si.toNat
      | .di => s.regs.di.toNat
      | .bp => s.regs.bp.toNat
      | .bx => s.regs.bx.toNat
    (∀ b, ((s.ea (.based b .none)).toNat : Int) = sum b % 2 ^ 16) ∧
    (∀ b, ((s.ea (.based b (.d8 d))).toNat : Int) = (sum b + d.toInt) % 2 ^ 16) ∧
    (∀ b, ((s.ea (.based b (.d16 w))).toNat : Int) = (sum b + w.toNat) % 2 ^ 16) ∧
    s.ea (.direct w) = w ∧
    (∀ m, s.segOf m = match s.armed.seg with
      | some g => g
      | none => match m with
        | .based .bpsi _ | .based .bpdi _ | .based .bp _ => .ss
        | _ => .ds)

/-! ## Arithmetic -/

/-- `ADD` and `ADC`, all their forms: sum, six flags, frame (R350, R351, R352). -/
def Obligations.AddAndAdc : Prop :=
  EightForms (Sum false) .addRm8R8 .addRm16R16 .addR8Rm8 .addR16Rm16 .addAlImm8 .addAxImm16 .addRm8Imm8 .addRm16Imm16 ∧
  TwoMoreForms (Sum false) .addRm8Imm8Alt .addRm16Simm8 ∧
  EightForms (Sum true) .adcRm8R8 .adcRm16R16 .adcR8Rm8 .adcR16Rm16 .adcAlImm8 .adcAxImm16 .adcRm8Imm8 .adcRm16Imm16 ∧
  TwoMoreForms (Sum true) .adcRm8Imm8Alt .adcRm16Simm8

/-- `SUB` and `SBB`, all their forms: difference, six flags, frame (R350, R356, R357). -/
def Obligations.SubAndSbb : Prop :=
  EightForms (Diff false) .subRm8R8 .subRm16R16 .subR8Rm8 .subR16Rm16 .subAlImm8 .subAxImm16 .subRm8Imm8 .subRm16Imm16 ∧
  TwoMoreForms (Diff false) .subRm8Imm8Alt .subRm16Simm8 ∧
  EightForms (Diff true) .sbbRm8R8 .sbbRm16R16 .sbbR8Rm8 .sbbR16Rm16 .sbbAlImm8 .sbbAxImm16 .sbbRm8Imm8 .sbbRm16Imm16 ∧
  TwoMoreForms (Diff true) .sbbRm8Imm8Alt .sbbRm16Simm8

/-- `CMP` and `TEST`, all their forms: the flags of `SUB` and of `AND`; no register and no byte changes
(R350, R360, R400, R410). -/
def Obligations.CompareAndTest : Prop :=
  (∀ e r, Inspects8 (Diff false) (.cmpRm8R8 e r) e (.rm (.reg r))) ∧
  (∀ e r, Inspects16 (Diff false) (.cmpRm16R16 e r) e (.rm (.reg r))) ∧
  (∀ r e, Inspects8 (Diff false) (.cmpR8Rm8 r e) (.reg r) (.rm e)) ∧
  (∀ r e, Inspects16 (Diff false) (.cmpR16Rm16 r e) (.reg r) (.rm e)) ∧
  (∀ v, Inspects8 (Diff false) (.cmpAlImm8 v) (.reg .al) (.imm v)) ∧
  (∀ v, Inspects16 (Diff false) (.cmpAxImm16 v) (.reg .ax) (.imm v)) ∧
  (∀ e v, Inspects8 (Diff false) (.cmpRm8Imm8 e v) e (.imm v)) ∧
  (∀ e v, Inspects16 (Diff false) (.cmpRm16Imm16 e v) e (.imm v)) ∧
  (∀ e v, Inspects8 (Diff false) (.cmpRm8Imm8Alt e v) e (.imm v)) ∧
  (∀ e v, Inspects16 (Diff false) (.cmpRm16Simm8 e v) e (.imm (v.signExtend 16))) ∧
  (∀ e r, Inspects8 (Logic and) (.testRm8R8 e r) e (.rm (.reg r))) ∧
  (∀ e r, Inspects16 (Logic and) (.testRm16R16 e r) e (.rm (.reg r))) ∧
  (∀ v, Inspects8 (Logic and) (.testAlImm8 v) (.reg .al) (.imm v)) ∧
  (∀ v, Inspects16 (Logic and) (.testAxImm16 v) (.reg .ax) (.imm v)) ∧
  (∀ e v, Inspects8 (Logic and) (.testRm8Imm8 e v) e (.imm v)) ∧
  (∀ e v, Inspects16 (Logic and) (.testRm16Imm16 e v) e (.imm v))

/-- `INC` and `DEC` in all their forms: CF is as before (R353, R358). -/
def Obligations.IncAndDec : Prop :=
  OneOperand Inc .incRm8 .incRm16 ∧ OneOperand Dec .decRm8 .decRm16 ∧
  (∀ s : State, s.Quiet → ∀ r, Changes16 Inc (.incR16 r) (.reg r) s ∧ Changes16 Dec (.decR16 r) (.reg r) s)

/-- `NEG` and `NOT` (R359, R401). -/
def Obligations.NegAndNot : Prop := OneOperand Neg .negRm8 .negRm16 ∧ OneOperand Complement .notRm8 .notRm16

/-- `MUL` and `IMUL`: the exact product in AX or DX:AX; CF and OF say that it needs the upper half; SF, ZF, AF and PF
are free; nothing else changes (R363, R364). -/
def Obligations.Products : Prop :=
  ∀ s : State, s.Quiet →
    (∀ e, Completes (.mulRm8 e) s fun t => ∃ p : Word,
      p.toNat = (s.reg8 .al).toNat * (operand8 s (s.place e)).toNat ∧
      After { s with regs := s.regs.put16 .ax p } t s.byteAt fun g =>
        (g.cf = true ↔ 2 ^ 8 ≤ p.toNat) ∧ g.ofl = g.cf ∧ Keeps3 s.flags g) ∧
    (∀ e, Completes (.mulRm16 e) s fun t => ∃ hi lo : Word,
      hi.toNat * 2 ^ 16 + lo.toNat = (s.reg16 .ax).toNat * (operand16 s (s.place e)).toNat ∧
      After { s with regs := (s.regs.put16 .dx hi).put16 .ax lo } t s.byteAt fun g =>
        (g.cf = true ↔ hi.toNat ≠ 0) ∧ g.ofl = g.cf ∧ Keeps3 s.flags g) ∧
    (∀ e, Completes (.imulRm8 e) s fun t => ∃ p : Word,
      p.toInt = (s.reg8 .al).toInt * (operand8 s (s.place e)).toInt ∧
      After { s with regs := s.regs.put16 .ax p } t s.byteAt fun g =>
        (g.cf = true ↔ ¬ Signed 8 p.toInt) ∧ g.ofl = g.cf ∧ Keeps3 s.flags g) ∧
    (∀ e, Completes (.imulRm16 e) s fun t => ∃ hi lo : Word,
      hi.toInt * 2 ^ 16 + lo.toNat = (s.reg16 .ax).toInt * (operand16 s (s.place e)).toInt ∧
      After { s with regs := (s.regs.put16 .dx hi).put16 .ax lo } t s.byteAt fun g =>
        (g.cf = true ↔ ¬ Signed 16 (hi.toInt * 2 ^ 16 + lo.toNat)) ∧ g.ofl = g.cf ∧ Keeps3 s.flags g)

/-- `DIV` with a quotient that fits: dividend = quotient times divisor plus remainder, the remainder below the divisor;
the six flags are free; nothing else changes (R366). -/
def Obligations.UnsignedQuotients : Prop :=
  ∀ s : State, s.Quiet →
    (∀ e, (s.reg16 .ax).toNat < 2 ^ 8 * (operand8 s (s.place e)).toNat →
      Completes (.divRm8 e) s fun t => ∃ q r : Byte,
        (s.reg16 .ax).toNat = q.toNat * (operand8 s (s.place e)).toNat + r.toNat ∧
        r.toNat < (operand8 s (s.place e)).toNat ∧
        After { s with regs := s.regs.put16 .ax (r ++ q) } t s.byteAt (Keeps3 s.flags)) ∧
    (∀ e, (s.reg16 .dx ++ s.reg16 .ax).toNat < 2 ^ 16 * (operand16 s (s.place e)).toNat →
      Completes (.divRm16 e) s fun t => ∃ q r : Word,
        (s.reg16 .dx).toNat * 2 ^ 16 + (s.reg16 .ax).toNat = q.toNat * (operand16 s (s.place e)).toNat + r.toNat ∧
        r.toNat < (operand16 s (s.place e)).toNat ∧
        After { s with regs := (s.regs.put16 .ax q).put16 .dx r } t s.byteAt (Keeps3 s.flags))

/-- `IDIV` with a quotient in the range of the 8086, from -127 to 127 or from -32767 to 32767 (R367; the range
is the 8086's, log entry 30). The six flags are free. -/
def Obligations.SignedQuotients : Prop :=
  ∀ s : State, s.Quiet →
    (∀ e, operand8 s (s.place e) ≠ 0 →
      ((s.reg16 .ax).toInt.tdiv (operand8 s (s.place e)).toInt).natAbs ≤ 127 →
      Completes (.idivRm8 e) s fun t => ∃ q r : Byte,
        Divides (s.reg16 .ax).toInt (operand8 s (s.place e)).toInt q.toInt r.toInt ∧
        After { s with regs := s.regs.put16 .ax (r ++ q) } t s.byteAt (Keeps3 s.flags)) ∧
    (∀ e, operand16 s (s.place e) ≠ 0 →
      ((s.reg16 .dx ++ s.reg16 .ax).toInt.tdiv (operand16 s (s.place e)).toInt).natAbs ≤ 32767 →
      Completes (.idivRm16 e) s fun t => ∃ q r : Word,
        Divides (s.reg16 .dx ++ s.reg16 .ax).toInt (operand16 s (s.place e)).toInt q.toInt r.toInt ∧
        After { s with regs := (s.regs.put16 .ax q).put16 .dx r } t s.byteAt (Keeps3 s.flags))

/-- A divisor of 0 or a quotient that does not fit takes interrupt 0 with the next instruction as its return address:
the registers of quotient and remainder and the six flags are free before the frame is pushed (R366, R367, R526). That
the saved address is the next instruction's, and the range of `IDIV`, are the 8086's (log entry 30); which registers are
free is log entry 7, the constant bits of the FLAGS word pushed log entry 1, the single step owed log entry 23. -/
def Obligations.DivideErrors : Prop :=
  ∀ s : State, s.Quiet →
    (∀ i e, (i = .divRm8 e ∧ 2 ^ 8 * (operand8 s (s.place e)).toNat ≤ (s.reg16 .ax).toNat) ∨
        (i = .idivRm8 e ∧ (operand8 s (s.place e) = 0 ∨
          127 < ((s.reg16 .ax).toInt.tdiv (operand8 s (s.place e)).toInt).natAbs)) →
      Completes i s fun t => ∃ (a : Word) (f : Flags), Keeps3 s.flags f ∧
        Interrupted { s with regs := s.regs.put16 .ax a, flags := f } t 0 s.segs.cs s.ip) ∧
    (∀ i e, (i = .divRm16 e ∧ 2 ^ 16 * (operand16 s (s.place e)).toNat ≤ (s.reg16 .dx ++ s.reg16 .ax).toNat) ∨
        (i = .idivRm16 e ∧ (operand16 s (s.place e) = 0 ∨
          32767 < ((s.reg16 .dx ++ s.reg16 .ax).toInt.tdiv (operand16 s (s.place e)).toInt).natAbs)) →
      Completes i s fun t => ∃ (a d : Word) (f : Flags), Keeps3 s.flags f ∧
        Interrupted { s with regs := (s.regs.put16 .ax a).put16 .dx d, flags := f } t 0 s.segs.cs s.ip)

/-- `AAA` and `AAS`: the low digit of AL corrected by 6 and AH by 1, in two additions of 8 bits, when the digit is above
9 or AF is 1; CF and AF say so; OF, SF, ZF and PF are free (R354, R361). That the rules are followed on operands that are
no unpacked digits too, where U12 leaves AL, CF and AF open, is log entry 6. -/
def Obligations.AsciiAdjusts : Prop :=
  ∀ s : State,
    let al := (s.reg8 .al).toNat
    let ah := (s.reg8 .ah).toNat
    let adjusts := 9 < al % 16 ∨ s.flags.af = true
    (Completes .aaa s fun t => ∃ l h : Byte,
      (adjusts → l.toNat = (al + 6) % 16 ∧ h.toNat = (ah + 1) % 2 ^ 8) ∧
      (¬ adjusts → l.toNat = al % 16 ∧ h = s.reg8 .ah) ∧
      After { s with regs := s.regs.put16 .ax (h ++ l) } t s.byteAt fun g =>
        (g.cf = true ↔ adjusts) ∧ (g.af = true ↔ adjusts) ∧ Keeps3 s.flags g) ∧
    (Completes .aas s fun t => ∃ l h : Byte,
      (adjusts → l.toNat = (al + 10) % 16 ∧ h.toNat = (ah + 255) % 2 ^ 8) ∧
      (¬ adjusts → l.toNat = al % 16 ∧ h = s.reg8 .ah) ∧
      After { s with regs := s.regs.put16 .ax (h ++ l) } t s.byteAt fun g =>
        (g.cf = true ↔ adjusts) ∧ (g.af = true ↔ adjusts) ∧ Keeps3 s.flags g)

/-- `AAM` splits AL into two digits, `AAD` joins two digits in AL; SF, ZF and PF tell of AL; OF, AF and CF are free
(R365, R368). That the rules are followed on operands that are no unpacked digits too, where U12 leaves the result open,
is log entry 6. -/
def Obligations.AsciiProducts : Prop :=
  ∀ s : State,
    (Completes .aam s fun t => ∃ l h : Byte,
      (s.reg8 .al).toNat = 10 * h.toNat + l.toNat ∧ l.toNat < 10 ∧
      After { s with regs := s.regs.put16 .ax (h ++ l) } t s.byteAt fun g => Tells l g ∧ Keeps3 s.flags g) ∧
    (Completes .aad s fun t => ∃ l : Byte,
      l.toNat = (10 * (s.reg8 .ah).toNat + (s.reg8 .al).toNat) % 2 ^ 8 ∧
      After { s with regs := s.regs.put16 .ax (0#8 ++ l) } t s.byteAt fun g => Tells l g ∧ Keeps3 s.flags g)

/-- After the addition or subtraction of two packed numbers, with a carry or borrow, `DAA` or `DAS` leaves the decimal
sum or difference modulo 100 in AL and its carry or borrow in CF; SF, ZF and PF tell of AL (R355, R362). The sum must
have left AL below FAH: from there the first correction of R355, taken modulo 2^8, loses its carry (log entry 6).
Nothing but AL and the flags changes, whatever AL held. -/
def Obligations.DecimalAdjusts : Prop :=
  ∀ s : State,
    (Completes .daa s fun t => ∃ v : Byte, After { s with regs := s.regs.put8 .al v } t s.byteAt fun g =>
      Tells v g ∧ Keeps3 s.flags g ∧
      ∀ (f : Flags) (x y : Byte), Packed x → Packed y → (s.reg8 .al).toNat < 0xFA →
        Sum true 8 f x y (s.reg8 .al) s.flags →
        Packed v ∧ decimal v = (decimal x + decimal y + carryIn true f) % 100 ∧
          (g.cf = true ↔ 100 ≤ decimal x + decimal y + carryIn true f)) ∧
    (Completes .das s fun t => ∃ v : Byte, After { s with regs := s.regs.put8 .al v } t s.byteAt fun g =>
      Tells v g ∧ Keeps3 s.flags g ∧
      ∀ (f : Flags) (x y : Byte), Packed x → Packed y → Diff true 8 f x y (s.reg8 .al) s.flags →
        Packed v ∧ (decimal v : Int) = ((decimal x : Int) - decimal y - carryIn true f) % 100 ∧
          (g.cf = true ↔ decimal x < decimal y + carryIn true f))

/-- `CBW` and `CWD`: AX is the signed number in AL, DX:AX the signed number in AX; nothing else changes (R369, R370). -/
def Obligations.SignExtensions : Prop :=
  ∀ s : State,
    (∃ v : Word, v.toInt = (s.reg8 .al).toInt ∧ exec .cbw s = .next { s with regs := s.regs.put16 .ax v }) ∧
    (∃ v : Word, (v ++ s.reg16 .ax).toInt = (s.reg16 .ax).toInt ∧ exec .cwd s = .next { s with regs := s.regs.put16 .dx v })

/-! ## Logic, shifts and rotates -/

/-- `AND`, `OR` and `XOR`, all their forms (R400, R409, R411, R412). -/
def Obligations.LogicOperations : Prop :=
  EightForms (Logic and) .andRm8R8 .andRm16R16 .andR8Rm8 .andR16Rm16 .andAlImm8 .andAxImm16 .andRm8Imm8 .andRm16Imm16 ∧
  EightForms (Logic or) .orRm8R8 .orRm16R16 .orR8Rm8 .orR16Rm16 .orAlImm8 .orAxImm16 .orRm8Imm8 .orRm16Imm16 ∧
  EightForms (Logic xor) .xorRm8R8 .xorRm16R16 .xorR8Rm8 .xorR16Rm16 .xorAlImm8 .xorAxImm16 .xorRm8Imm8 .xorRm16Imm16

/-- `SHL`, `SHR` and `SAR` by a count that is not 0, all eight bits of CL counting (R400, R402, R403, R404). -/
def Obligations.Shifts : Prop :=
  ShiftForms ShiftedLeft .shlRm8One .shlRm16One .shlRm8Cl .shlRm16Cl ∧
  ShiftForms ShiftedRight .shrRm8One .shrRm16One .shrRm8Cl .shrRm16Cl ∧
  ShiftForms ShiftedSigned .sarRm8One .sarRm16One .sarRm8Cl .sarRm16Cl

/-- `ROL` and `ROR` by a count that is not 0 (R400, R405, R406). -/
def Obligations.Rotates : Prop :=
  ShiftForms RotatedLeft .rolRm8One .rolRm16One .rolRm8Cl .rolRm16Cl ∧
  ShiftForms RotatedRight .rorRm8One .rorRm16One .rorRm8Cl .rorRm16Cl

/-- `RCL` and `RCR` by a count that is not 0: CF and the operand are one ring (R400, R407, R408). -/
def Obligations.RotatesThroughCarry : Prop :=
  ShiftForms CarriedLeft .rclRm8One .rclRm16One .rclRm8Cl .rclRm16Cl ∧
  ShiftForms CarriedRight .rcrRm8One .rcrRm16One .rcrRm8Cl .rcrRm16Cl

/-- A shift or rotate with CL = 0 changes no register, no flag and no byte of memory, whether or not it writes its
operand back (R400). -/
def Obligations.ShiftByZero : Prop :=
  ∀ s : State, s.Quiet → s.reg8 .cl = 0 →
    (∀ e, ∀ i ∈ [Instr.rolRm8Cl e, .rorRm8Cl e, .rclRm8Cl e, .rcrRm8Cl e, .shlRm8Cl e, .shrRm8Cl e, .sarRm8Cl e],
      Completes i s fun t => After s t s.byteAt (Same s.flags)) ∧
    (∀ e, ∀ i ∈ [Instr.rolRm16Cl e, .rorRm16Cl e, .rclRm16Cl e, .rcrRm16Cl e, .shlRm16Cl e, .shrRm16Cl e, .sarRm16Cl e],
      Completes i s fun t => After s t s.byteAt (Same s.flags))

/-! ## Data transfer -/

/-- `MOV` in all its forms without a segment register as destination: the source goes to the destination and nothing
else changes, no flag among it; the `moffs` forms use DS or the override (R310, R311). -/
def Obligations.Moves : Prop :=
  ∀ s : State, s.Quiet →
    (∀ e r, Stores8 (.movRm8R8 e r) s e (s.reg8 r)) ∧ (∀ e r, Stores16 (.movRm16R16 e r) s e (s.reg16 r)) ∧
    (∀ r e, Stores8 (.movR8Rm8 r e) s (.reg r) (operand8 s (s.place e))) ∧
    (∀ r e, Stores16 (.movR16Rm16 r e) s (.reg r) (operand16 s (s.place e))) ∧
    (∀ e g, Stores16 (.movRm16Sreg e g) s e (s.segReg g)) ∧
    (∀ a, Stores8 (.movAlMoffs a) s (.reg .al) (operand8 s (.mem (sourceSeg s) a))) ∧
    (∀ a, Stores16 (.movAxMoffs a) s (.reg .ax) (operand16 s (.mem (sourceSeg s) a))) ∧
    (∀ a, Stores8 (.movMoffsAl a) s (.mem (.direct a)) (s.reg8 .al)) ∧
    (∀ a, Stores16 (.movMoffsAx a) s (.mem (.direct a)) (s.reg16 .ax)) ∧
    (∀ r v, Stores8 (.movR8Imm8 r v) s (.reg r) v) ∧ (∀ r v, Stores16 (.movR16Imm16 r v) s (.reg r) v) ∧
    (∀ e v, Stores8 (.movRm8Imm8 e v) s e v) ∧ (∀ e v, Stores16 (.movRm16Imm16 e v) s e v)

/-- `MOV` to ES, SS or DS loads the register and leaves a shadow in which no interrupt is recognised; `LDS` and `LES`
load a register and DS or ES from the four bytes of a far pointer, and leave no shadow (R134, R311, R317, R318, R528). -/
def Obligations.SegmentLoads : Prop :=
  ∀ s : State, s.Quiet →
    (∀ g c e, (g, c) ∈ [(SegReg.es, Instr.movEsRm16 e), (.ss, .movSsRm16 e), (.ds, .movDsRm16 e)] →
      Completes c s fun t =>
        After { s with segs := s.segs.put g (operand16 s (s.place e)), shadow := .all } t s.byteAt (Same s.flags)) ∧
    (∀ g c r m, (g, c) ∈ [(SegReg.ds, Instr.lds r m), (.es, .les r m)] →
      Completes c s fun t =>
        After { s with
          regs := s.regs.put16 r (farOffset s m)
          segs := s.segs.put g (farSelector s m) } t s.byteAt (Same s.flags))

/-- `PUSH` of a word: SP is 2 less and the word is at SS:SP; `PUSH SP` pushes the decremented SP, as the
8086 does (R310, R312; log entry 30). -/
def Obligations.Pushes : Prop :=
  ∀ s : State, s.Quiet →
    let pushed (v : Word) (t : State) : Prop :=
      After (withSp s (s.regs.sp - 2)) t (pokeWord s s.byteAt .ss (s.regs.sp - 2) v) (Same s.flags)
    Completes .pushEs s (pushed s.segs.es) ∧ Completes .pushCs s (pushed s.segs.cs) ∧
    Completes .pushSs s (pushed s.segs.ss) ∧ Completes .pushDs s (pushed s.segs.ds) ∧
    (∀ r, Completes (.pushR16 r) s (pushed (if r = .sp then s.regs.sp - 2 else s.reg16 r))) ∧
    (∀ r, Completes (.pushRm16 (.reg r)) s (pushed (if r = .sp then s.regs.sp - 2 else s.reg16 r))) ∧
    (∀ m, Completes (.pushRm16 (.mem m)) s (pushed (operand16 s (s.place (.mem m)))))

/-- `POP`: the word at SS:SP goes to the operand and SP is 2 more; `POP SP` leaves the word popped; a pop to a segment
register leaves a shadow (R310, R313, R528). -/
def Obligations.Pops : Prop :=
  ∀ s : State, s.Quiet →
    let v := loadedWord s .ss s.regs.sp s.floats
    let up := s.regs.put16 .sp (s.regs.sp + 2)
    (∀ r, Completes (.popR16 r) s fun t => After { s with regs := up.put16 r v } t s.byteAt (Same s.flags)) ∧
    (∀ r, Completes (.popRm16 (.reg r)) s fun t => After { s with regs := up.put16 r v } t s.byteAt (Same s.flags)) ∧
    (∀ m, Completes (.popRm16 (.mem m)) s fun t =>
      After { s with regs := up } t (pokeWord s s.byteAt (s.segOf m) (s.ea m) v) (Same s.flags)) ∧
    (∀ g i, (g, i) ∈ [(SegReg.es, Instr.popEs), (.ss, .popSs), (.ds, .popDs)] →
      Completes i s fun t =>
        After { s with regs := up, segs := s.segs.put g v, shadow := .all } t s.byteAt (Same s.flags))

/-- `XCHG` exchanges two operands, `XLAT` looks AL up in the table at BX, `LEA` loads an effective address without an
access to memory (R314, R315, R316). -/
def Obligations.ExchangesAndTables : Prop :=
  ∀ s : State, s.Quiet →
    (∀ r r', Completes (.xchgR8Rm8 r (.reg r')) s fun t =>
      t = { s with regs := (s.regs.put8 r' (s.reg8 r)).put8 r (s.reg8 r') }) ∧
    (∀ r m, Completes (.xchgR8Rm8 r (.mem m)) s fun t =>
      After { s with regs := s.regs.put8 r (operand8 s (s.place (.mem m))) } t
        (bytesAfter8 s (s.place (.mem m)) (s.reg8 r)) (Same s.flags)) ∧
    (∀ r r', Completes (.xchgR16Rm16 r (.reg r')) s fun t =>
      t = { s with regs := (s.regs.put16 r' (s.reg16 r)).put16 r (s.reg16 r') }) ∧
    (∀ r m, Completes (.xchgR16Rm16 r (.mem m)) s fun t =>
      After { s with regs := s.regs.put16 r (operand16 s (s.place (.mem m))) } t
        (bytesAfter16 s (s.place (.mem m)) (s.reg16 r)) (Same s.flags)) ∧
    (∀ r, Completes (.xchgAxR16 r) s fun t =>
      t = { s with regs := (s.regs.put16 .ax (s.reg16 r)).put16 r s.regs.ax }) ∧
    (Completes .xlat s fun t =>
      let v := operand8 s (.mem (sourceSeg s) (s.regs.bx + (s.reg8 .al).setWidth 16))
      After { s with regs := s.regs.put8 .al v } t s.byteAt (Same s.flags)) ∧
    (∀ r m, exec (.lea r m) s = .next { s with regs := s.regs.put16 r (s.ea m) })

/-- `LAHF` and `SAHF` move SF, ZF, AF, PF and CF to and from AH, the other three bits of AH being free; `PUSHF` and
`POPF` move all nine flags to and from the stack, each at the bit of R33 (R33, R319, R320, R321, R324). -/
def Obligations.FlagTransfers : Prop :=
  ∀ s : State, s.Quiet →
    (Completes .lahf s fun t => ∃ v : Byte,
      v.getLsbD 7 = s.flags.sf ∧ v.getLsbD 6 = s.flags.zf ∧ v.getLsbD 4 = s.flags.af ∧ v.getLsbD 2 = s.flags.pf ∧
      v.getLsbD 0 = s.flags.cf ∧ After { s with regs := s.regs.put8 .ah v } t s.byteAt (Same s.flags)) ∧
    (exec .sahf s = .next { s with flags := { s.flags with
      sf := (s.reg8 .ah).getLsbD 7, zf := (s.reg8 .ah).getLsbD 6, af := (s.reg8 .ah).getLsbD 4,
      pf := (s.reg8 .ah).getLsbD 2, cf := (s.reg8 .ah).getLsbD 0 } }) ∧
    (Completes .pushf s fun t => ∃ v : Word,
      v.getLsbD 0 = s.flags.cf ∧ v.getLsbD 2 = s.flags.pf ∧ v.getLsbD 4 = s.flags.af ∧ v.getLsbD 6 = s.flags.zf ∧
      v.getLsbD 7 = s.flags.sf ∧ v.getLsbD 8 = s.flags.tf ∧ v.getLsbD 9 = s.flags.ifl ∧ v.getLsbD 10 = s.flags.df ∧
      v.getLsbD 11 = s.flags.ofl ∧
      After (withSp s (s.regs.sp - 2)) t (pokeWord s s.byteAt .ss (s.regs.sp - 2) v) (Same s.flags)) ∧
    (Completes .popf s fun t =>
      let v := loadedWord s .ss s.regs.sp s.floats
      After (withSp s (s.regs.sp + 2)) t s.byteAt fun g =>
        g = { cf := v.getLsbD 0, pf := v.getLsbD 2, af := v.getLsbD 4, zf := v.getLsbD 6, sf := v.getLsbD 7,
              tf := v.getLsbD 8, ifl := v.getLsbD 9, df := v.getLsbD 10, ofl := v.getLsbD 11 })

/-- The device at a port answers `IN`, and takes what `OUT` sends: a byte at the port, or a word at the port and the next
one, low byte first; a port without an answer gives a free value; memory, flags and the other registers do not change
(R124, R133, R322, R323). What a device is, a table of its reactions to reads and writes (`Device.take`, `Device.give`),
is log entry 17; the bus cycles of the access are in `Obligations.CyclesPerAccess`. -/
def Obligations.Ports : Prop :=
  ∀ s : State, s.Quiet →
    let into8 (p : Nat) (t : State) : Prop := ∃ v d,
      (∀ r, Device.take p s.devices = some r → v = r.1 ∧ d = r.2) ∧
      (Device.take p s.devices = none → d = s.devices) ∧
      After { s with regs := s.regs.put8 .al v, devices := d } t s.byteAt (Same s.flags)
    let into16 (p : Nat) (t : State) : Prop := ∃ lo hi d d',
      (∀ r, Device.take p s.devices = some r → lo = r.1 ∧ d = r.2) ∧
      (Device.take p s.devices = none → d = s.devices) ∧
      (∀ r, Device.take (p + 1) d = some r → hi = r.1 ∧ d' = r.2) ∧
      (Device.take (p + 1) d = none → d' = d) ∧
      After { s with regs := s.regs.put16 .ax (hi ++ lo), devices := d' } t s.byteAt (Same s.flags)
    let out8 (p : Nat) (t : State) : Prop :=
      After { s with devices := Device.give p (s.reg8 .al) s.devices } t s.byteAt (Same s.flags)
    let out16 (p : Nat) (t : State) : Prop :=
      After { s with devices := Device.give (p + 1) (s.reg8 .ah) (Device.give p (s.reg8 .al) s.devices) } t s.byteAt
        (Same s.flags)
    (∀ p, Completes (.inAlImm8 p) s (into8 p.toNat) ∧ Completes (.inAxImm8 p) s (into16 p.toNat) ∧
      Completes (.outImm8Al p) s (out8 p.toNat) ∧ Completes (.outImm8Ax p) s (out16 p.toNat)) ∧
    Completes .inAlDx s (into8 s.regs.dx.toNat) ∧ Completes .outDxAl s (out8 s.regs.dx.toNat) ∧
    (s.regs.dx ≠ 0xFFFF →
      Completes .inAxDx s (into16 s.regs.dx.toNat) ∧ Completes .outDxAx s (out16 s.regs.dx.toNat))

/-! ## Strings -/

/-- One element of `MOVS`, `STOS` and `LODS`, without a prefix or under one with CX not 0: the element moves, SI and DI
go on by its size in the direction of DF, CX is one less under a prefix; the flags do not change (R430, R431, R432,
R435, R436). -/
def Obligations.StringMoves : Prop :=
  ∀ s : State, Iterates s →
    (Completes .movsb s fun t =>
      After (iterated s .movsb false s.flags.zf (bothMoved s 1)) t
        (poke s s.byteAt (s.addr .es s.regs.di) (operand8 s (.mem (sourceSeg s) s.regs.si))) (Same s.flags)) ∧
    (Completes .movsw s fun t =>
      After (iterated s .movsw false s.flags.zf (bothMoved s 2)) t
        (pokeWord s s.byteAt .es s.regs.di (operand16 s (.mem (sourceSeg s) s.regs.si))) (Same s.flags)) ∧
    (Completes .stosb s fun t =>
      After (iterated s .stosb false s.flags.zf (s.regs.put16 .di (moved s s.regs.di 1))) t
        (poke s s.byteAt (s.addr .es s.regs.di) (s.reg8 .al)) (Same s.flags)) ∧
    (Completes .stosw s fun t =>
      After (iterated s .stosw false s.flags.zf (s.regs.put16 .di (moved s s.regs.di 2))) t
        (pokeWord s s.byteAt .es s.regs.di s.regs.ax) (Same s.flags)) ∧
    (Completes .lodsb s fun t =>
      After (iterated s .lodsb false s.flags.zf
        ((s.regs.put8 .al (operand8 s (.mem (sourceSeg s) s.regs.si))).put16 .si (moved s s.regs.si 1))) t s.byteAt
        (Same s.flags)) ∧
    (Completes .lodsw s fun t =>
      After (iterated s .lodsw false s.flags.zf
        ((s.regs.put16 .ax (operand16 s (.mem (sourceSeg s) s.regs.si))).put16 .si (moved s s.regs.si 2))) t s.byteAt
        (Same s.flags))

/-- One element of `CMPS` and `SCAS`: the flags of the element at SI, or of the accumulator, minus the element at ES:DI;
under a prefix the loop ends when CX has reached 0 or ZF is not what the prefix asks (R430, R431, R433, R434). -/
def Obligations.StringCompares : Prop :=
  ∀ s : State, Iterates s →
    (Completes .cmpsb s fun t => ∃ r,
      After (iterated s .cmpsb true t.flags.zf (bothMoved s 1)) t s.byteAt
        (Diff false 8 s.flags (operand8 s (.mem (sourceSeg s) s.regs.si))
          (loaded s (s.addr .es s.regs.di) (s.floats + spent s (s.addr (sourceSeg s) s.regs.si))) r)) ∧
    (Completes .cmpsw s fun t => ∃ r,
      After (iterated s .cmpsw true t.flags.zf (bothMoved s 2)) t s.byteAt
        (Diff false 16 s.flags (operand16 s (.mem (sourceSeg s) s.regs.si))
          (loadedWord s .es s.regs.di (s.floats + spentWord s (sourceSeg s) s.regs.si)) r)) ∧
    (Completes .scasb s fun t => ∃ r,
      After (iterated s .scasb true t.flags.zf (s.regs.put16 .di (moved s s.regs.di 1))) t s.byteAt
        (Diff false 8 s.flags (s.reg8 .al) (operand8 s (.mem .es s.regs.di)) r)) ∧
    (Completes .scasw s fun t => ∃ r,
      After (iterated s .scasw true t.flags.zf (s.regs.put16 .di (moved s s.regs.di 2))) t s.byteAt
        (Diff false 16 s.flags s.regs.ax (operand16 s (.mem .es s.regs.di)) r))

/-- Under a repeat prefix with CX = 0 a string instruction does nothing at all (R430). -/
def Obligations.RepeatZeroTimes : Prop :=
  ∀ s : State, s.armed.rep ≠ none → s.regs.cx = 0 →
    ∀ i ∈ [Instr.movsb, .movsw, .cmpsb, .cmpsw, .stosb, .stosw, .lodsb, .lodsw, .scasb, .scasw], exec i s = .next s

/-! ## Control transfer -/

/-- `JMP` and `CALL`, near and far, direct and indirect: CS:IP is the target, the queue is empty; a call has pushed
`IP_next`, a far one CS before it, after its operand was read (R450, R451, R452). -/
def Obligations.JumpsAndCalls : Prop :=
  ∀ s : State, s.Quiet →
    let pushedNear := pokeWord s s.byteAt .ss (s.regs.sp - 2) s.ip
    let pushedFar := pokeWord s (pokeWord s s.byteAt .ss (s.regs.sp - 2) s.segs.cs) .ss (s.regs.sp - 4) s.ip
    (∀ d, Completes (.jmpRel16 d) s fun t => After (jumped s s.segs.cs (s.ip + d)) t s.byteAt (Same s.flags)) ∧
    (∀ d, Completes (.jmpRel8 d) s fun t => After (jumped s s.segs.cs (shortTarget s d)) t s.byteAt (Same s.flags)) ∧
    (∀ e, Completes (.jmpRm16 e) s fun t =>
      After (jumped s s.segs.cs (operand16 s (s.place e))) t s.byteAt (Same s.flags)) ∧
    (∀ o g, Completes (.jmpFar o g) s fun t => After (jumped s g o) t s.byteAt (Same s.flags)) ∧
    (∀ m, Completes (.jmpFarM m) s fun t => After (jumped s (farSelector s m) (farOffset s m)) t s.byteAt (Same s.flags)) ∧
    (∀ d, Completes (.callRel16 d) s fun t =>
      After (jumped (withSp s (s.regs.sp - 2)) s.segs.cs (s.ip + d)) t pushedNear (Same s.flags)) ∧
    (∀ e, Completes (.callRm16 e) s fun t =>
      After (jumped (withSp s (s.regs.sp - 2)) s.segs.cs (operand16 s (s.place e))) t pushedNear (Same s.flags)) ∧
    (∀ o g, Completes (.callFar o g) s fun t =>
      After (jumped (withSp s (s.regs.sp - 4)) g o) t pushedFar (Same s.flags)) ∧
    (∀ m, Completes (.callFarM m) s fun t =>
      After (jumped (withSp s (s.regs.sp - 4)) (farSelector s m) (farOffset s m)) t pushedFar (Same s.flags))

/-- The four forms of `RET` pop IP, a far one CS after it, and then drop the bytes of their operand (R453). -/
def Obligations.Returns : Prop :=
  ∀ s : State, s.Quiet →
    let ip := loadedWord s .ss s.regs.sp s.floats
    let cs := loadedWord s .ss (s.regs.sp + 2) (s.floats + spentWord s .ss s.regs.sp)
    (Completes .retNear s fun t =>
      After (jumped (withSp s (s.regs.sp + 2)) s.segs.cs ip) t s.byteAt (Same s.flags)) ∧
    (∀ n, Completes (.retNearImm16 n) s fun t =>
      After (jumped (withSp s (s.regs.sp + 2 + n)) s.segs.cs ip) t s.byteAt (Same s.flags)) ∧
    (Completes .retFar s fun t => After (jumped (withSp s (s.regs.sp + 4)) cs ip) t s.byteAt (Same s.flags)) ∧
    (∀ n, Completes (.retFarImm16 n) s fun t =>
      After (jumped (withSp s (s.regs.sp + 4 + n)) cs ip) t s.byteAt (Same s.flags))

/-- The sixteen conditional jumps, `JCXZ` and the three loops, whose decrement of CX changes no flag (R450, R454 to
R473). -/
def Obligations.ConditionalJumps : Prop :=
  ∀ s : State, s.Quiet →
    let f := s.flags
    let looped : State := { s with regs := s.regs.put16 .cx (s.regs.cx - 1) }
    JumpsWhen .jo s s (f.ofl = true) ∧ JumpsWhen .jno s s (f.ofl = false) ∧
    JumpsWhen .jb s s (f.cf = true) ∧ JumpsWhen .jnb s s (f.cf = false) ∧
    JumpsWhen .je s s (f.zf = true) ∧ JumpsWhen .jne s s (f.zf = false) ∧
    JumpsWhen .jbe s s (f.cf = true ∨ f.zf = true) ∧ JumpsWhen .jnbe s s (f.cf = false ∧ f.zf = false) ∧
    JumpsWhen .js s s (f.sf = true) ∧ JumpsWhen .jns s s (f.sf = false) ∧
    JumpsWhen .jp s s (f.pf = true) ∧ JumpsWhen .jnp s s (f.pf = false) ∧
    JumpsWhen .jl s s (f.sf ≠ f.ofl) ∧ JumpsWhen .jnl s s (f.sf = f.ofl) ∧
    JumpsWhen .jle s s (f.zf = true ∨ f.sf ≠ f.ofl) ∧ JumpsWhen .jnle s s (f.zf = false ∧ f.sf = f.ofl) ∧
    JumpsWhen .jcxz s s (s.regs.cx = 0) ∧
    JumpsWhen .loop s looped (s.regs.cx - 1 ≠ 0) ∧
    JumpsWhen .loope s looped (s.regs.cx - 1 ≠ 0 ∧ f.zf = true) ∧
    JumpsWhen .loopne s looped (s.regs.cx - 1 ≠ 0 ∧ f.zf = false)

/-- After a comparison of two bytes or of two words, `JB`, `JBE`, `JL` and `JLE` jump exactly when the first is below, not
above, less than, not greater than the second, `JE` when they are equal, and their opposites exactly when not: the
unsigned and the signed orders (R450, R456 to R461, R466 to R469). -/
def Obligations.JumpsAfterCompare : Prop :=
  ∀ (s : State) (f : Flags) (n : Nat) (a b r : BitVec n), s.Quiet → (n = 8 ∨ n = 16) → Diff false n f a b r s.flags →
    JumpsWhen .jb s s (a.toNat < b.toNat) ∧ JumpsWhen .jnb s s (b.toNat ≤ a.toNat) ∧
    JumpsWhen .jbe s s (a.toNat ≤ b.toNat) ∧ JumpsWhen .jnbe s s (b.toNat < a.toNat) ∧
    JumpsWhen .jl s s (a.toInt < b.toInt) ∧ JumpsWhen .jnl s s (b.toInt ≤ a.toInt) ∧
    JumpsWhen .jle s s (a.toInt ≤ b.toInt) ∧ JumpsWhen .jnle s s (b.toInt < a.toInt) ∧
    JumpsWhen .je s s (a = b) ∧ JumpsWhen .jne s s (a ≠ b)

/-! ## Interrupts -/

/-- `INT n`, `INT 3` and `INTO` with OF = 1 take the interrupt sequence with the next instruction as the return address;
`INTO` with OF = 0 does nothing (R474, R475, R476, R521, R525, R530). The constant bits of the FLAGS word pushed are log
entry 1; the single step owed, where R527 and R529 part ways, is log entry 23. -/
def Obligations.SoftwareInterrupts : Prop :=
  ∀ s : State, s.Quiet →
    (∀ n, Completes (.intN n) s fun t => Interrupted s t n s.segs.cs s.ip) ∧
    (Completes .int3 s fun t => Interrupted s t 3 s.segs.cs s.ip) ∧
    (s.flags.ofl = true → Completes .into s fun t => Interrupted s t 4 s.segs.cs s.ip) ∧
    (s.flags.ofl = false → exec .into s = .next s)

/-- `IRET` pops IP, CS and the nine flags (R477). -/
def Obligations.InterruptReturn : Prop :=
  ∀ s : State, s.Quiet → Completes .iret s fun t =>
    let ip := loadedWord s .ss s.regs.sp s.floats
    let cs := loadedWord s .ss (s.regs.sp + 2) (s.floats + spentWord s .ss s.regs.sp)
    let v := loadedWord s .ss (s.regs.sp + 4) (s.floats + spentWord s .ss s.regs.sp + spentWord s .ss (s.regs.sp + 2))
    After (jumped (withSp s (s.regs.sp + 6)) cs ip) t s.byteAt fun g =>
      g = { cf := v.getLsbD 0, pf := v.getLsbD 2, af := v.getLsbD 4, zf := v.getLsbD 6, sf := v.getLsbD 7,
            tf := v.getLsbD 8, ifl := v.getLsbD 9, df := v.getLsbD 10, ofl := v.getLsbD 11 }

/-- `IRET` after an interrupt whose frame lies in RAM resumes where it came from: SP and every other general register, the
other segment registers and all nine flags are what they were, and CS:IP is the address saved. It holds after every
interrupt sequence, those of NMI, INTR, single step and divide error among them, and so after `INT n`, `INT 3` and `INTO`
with OF = 1, which resume after themselves (R474, R475, R476, R477, R530, R533). The sequence is `Interrupted`, with the
constant bits of log entry 1 and the single step of log entry 23. -/
def Obligations.ReturnUndoesInterrupt : Prop :=
  ∀ s : State, s.Quiet → FrameInRam s →
    (∀ (t : State) (n : Byte) (rcs rip : Word), Interrupted s t n rcs rip →
      ∃ u, exec .iret t = .next u ∧ u.regs = s.regs ∧ u.segs = s.segs.put .cs rcs ∧ u.ip = rip ∧ u.flags = s.flags) ∧
    (∀ i, (∃ n, i = .intN n) ∨ i = .int3 ∨ (i = .into ∧ s.flags.ofl = true) →
      ∃ t u, exec i s = .next t ∧ exec .iret t = .next u ∧
        u.regs = s.regs ∧ u.segs = s.segs ∧ u.ip = s.ip ∧ u.flags = s.flags)

/-- What is recognised between two instructions, the highest first: a latched NMI, type 2, whose latch is cleared; INTR
with IF = 1, whose type comes from two acknowledge cycles with nothing between them; a single step, type 1. The saved
address is the next instruction, or the one it interrupts (R521, R524, R527, R528, R529, R530, R532). That the
recognition is a step of its own, and the single step owed after it, are log entry 23; the constant bits of the FLAGS
word pushed are log entry 1; the offset saved for a `WAIT` with prefixes is log entry 25. -/
def Obligations.Recognition : Prop :=
  ∀ s : State, Listens s →
    (s.nmiLatch = true → ∃ t, step s = .next t ∧
      Interrupted (givenUp s false) t 2 s.segs.cs (savedOffset s)) ∧
    (s.nmiLatch = false → IntrDue s → ∃ t, step s = .next t ∧
      t.log.cycles.take 2 = [ackCycle s none s.waits, ackCycle s (some s.pins.intType) 0] ∧
      Interrupted (givenUp s false) t s.pins.intType s.segs.cs (savedOffset s)) ∧
    (s.nmiLatch = false → ¬ IntrDue s → s.trap ≠ .none → ∃ t, step s = .next t ∧
      Interrupted (givenUp s false) t 1 s.segs.cs (savedOffset s))

/-- Nothing is recognised before the first instruction after RESET has run, between a prefix and its instruction, after a load of a segment register, or where a `WAIT`
sees #TEST active; INTR is not with IF = 0 or after `STI`; nothing is due where nothing is pending; and a halted CPU
with nothing due runs no instruction and no bus cycle (R43, R302, R523, R528, R620). -/
def Obligations.Inhibition : Prop :=
  ∀ s : State,
    (s.unstarted = true ∨ s.armed.pending = true ∨ s.shadow = .all ∨ (s.inProgress = some .wait ∧ s.pins.test = false) → s.due = none) ∧
    (s.flags.ifl = false ∨ s.shadow = .intr ∨ s.pins.intr = false → s.due ≠ some .intr) ∧
    (s.nmiLatch = false → s.trap = .none → ¬ IntrDue s → s.due = none) ∧
    (s.script = [] → s.midway = none → s.halted = true → s.due = none →
      step s = .next { s with log := .empty, flight := .idle })

/-- The cession of the bus. A request pulse is remembered in its channel, in maximum mode, and HOLD is a level, in minimum
mode; a request is granted only by a CPU that has the bus, with no cycle that hangs, no #LOCK and no indivisible access half done; #RQ/#GT0 before
#RQ/#GT1, HOLD in minimum mode; a grant with nothing requested changes nothing; the release gives the bus back (R182,
R190, R192, R193, R197, R198). A rising edge of NMI sets its latch, a level does not (R524). When the grant comes is a move of
its own, and one the CPU cannot make is ignored while the request stays (log entry 38); in minimum mode HOLD is granted
whether or not the instruction is locked (R300 (a), D31, log entry 41). -/
def Obligations.BusCession : Prop :=
  ∀ s : State,
    let grants (ch : Bool) : Log := { s.log with grants := s.log.grants ++ [ch] }
    let free : Prop := s.owner = .cpu ∧ s.stuck = none ∧ s.point.cedes s.params = true
    (s.params.mode = .maximum → s.ch0 = .idle → s.happen (.request false) = { s with ch0 := .requested }) ∧
    (s.params.mode = .maximum → s.ch1 = .idle → s.happen (.request true) = { s with ch1 := .requested }) ∧
    (s.params.mode = .minimum → ∀ ch, s.happen (.request ch) = s) ∧
    (s.params.mode = .minimum → s.happen (.hold true) = { s with pins := { s.pins with hold := true } }) ∧
    (s.params.mode = .maximum → ∀ level, s.happen (.hold level) = s) ∧
    (s.owner ≠ .cpu ∨ s.stuck ≠ none ∨ s.lockActive = true ∨ s.point.cedes s.params = false → s.happen .grant = s) ∧
    (s.params.mode = .maximum → s.ch0 ≠ .requested → s.ch1 ≠ .requested → s.happen .grant = s) ∧
    (s.params.mode = .minimum → s.pins.hold = false → s.happen .grant = s) ∧
    (free → s.lockActive = false → s.params.mode = .maximum → s.ch0 = .requested →
      s.happen .grant = { s with ch0 := .granted, owner := .ext0, log := grants false }) ∧
    (free → s.lockActive = false → s.params.mode = .maximum → s.ch0 ≠ .requested →
      s.ch1 = .requested → s.happen .grant = { s with ch1 := .granted, owner := .ext1, log := grants true }) ∧
    (free → s.params.mode = .minimum → s.pins.hold = true →
      s.happen .grant = { s with owner := .hold }) ∧
    (s.ch0 = .granted → s.happen (.release false) = { s with ch0 := .idle, owner := .cpu }) ∧
    (s.ch1 = .granted → s.happen (.release true) = { s with ch1 := .idle, owner := .cpu }) ∧
    (s.params.mode = .minimum → s.owner = .hold →
      s.happen (.hold false) = { s with pins := { s.pins with hold := false }, owner := .cpu }) ∧
    (s.pins.nmi = false → s.happen (.nmi true) = { s with nmiLatch := true, pins := { s.pins with nmi := true } }) ∧
    (s.pins.nmi = true → s.happen (.nmi true) = s)

/-! ## Processor control -/

/-- `CLC`, `CMC`, `STC`, `CLD` and `STD`, one byte each, change one flag and nothing else (R500 to R504). -/
def Obligations.FlagInstructions : Prop :=
  decode [0xF8] = some (.clc, []) ∧ decode [0xF5] = some (.cmc, []) ∧ decode [0xF9] = some (.stc, []) ∧
  decode [0xFC] = some (.cld, []) ∧ decode [0xFD] = some (.std, []) ∧
  ∀ s : State,
    exec .clc s = .next { s with flags := { s.flags with cf := false } } ∧
    exec .cmc s = .next { s with flags := { s.flags with cf := !s.flags.cf } } ∧
    exec .stc s = .next { s with flags := { s.flags with cf := true } } ∧
    exec .cld s = .next { s with flags := { s.flags with df := false } } ∧
    exec .std s = .next { s with flags := { s.flags with df := true } }

/-- `CLI` and `STI` change IF, `STI` leaving a shadow in which INTR is not recognised; `NOP` does nothing; the seven
prefixes arm what they say for the instruction that follows, the last of a kind counting (R271, R300, R430, R505 to
R508, R528). That a prefix is an instruction of its own, which arms the next, is log entry 8; that `STI` leaves its shadow
also where IF was 1 already is the 8086's (U11, log entry 29). -/
def Obligations.InterruptFlagAndPrefixes : Prop :=
  ∀ s : State,
    exec .cli s = .next { s with flags := { s.flags with ifl := false } } ∧
    exec .sti s = .next { s with flags := { s.flags with ifl := true }, shadow := .intr } ∧
    exec .nop s = .next s ∧
    (∀ g i, (g, i) ∈ [(SegReg.es, Instr.esOverride), (.cs, .csOverride), (.ss, .ssOverride), (.ds, .dsOverride)] →
      exec i s = .next { s with armed := { s.armed with pending := true, seg := some g } }) ∧
    exec .repne s = .next { s with armed := { s.armed with pending := true, rep := some .repne } } ∧
    exec .rep s = .next { s with armed := { s.armed with pending := true, rep := some .rep } } ∧
    exec .lock s = .next { s with locked := true, armed := { s.armed with pending := true } }

/-- `WAIT` completes when #TEST is at 0 and otherwise goes on waiting; `HLT` runs the halt cycle, which moves no data,
and enters the halt state; `ESC` reads its memory operand for the coprocessor and changes nothing (R177, R301, R302,
R512). -/
def Obligations.WaitHaltEscape : Prop :=
  ∀ s : State, s.Quiet →
    (s.pins.test = false → exec .wait s = .next s) ∧
    (s.pins.test = true → exec .wait s = .next { s with inProgress := some .wait }) ∧
    exec .hlt s = .next { s with
      halted := true
      waits := 0
      log := { s.log with cycles := s.log.cycles ++
        [{ kind := .halt, addr := none, bhe := none, data := { low := none, high := none }, seg := none,
           s5 := s.flags.ifl, lock := s.lockActive, waits := s.waits }] } } ∧
    (∀ x r, exec (.esc x (.reg r)) s = .next s) ∧
    (∀ x m, Completes (.esc x (.mem m)) s fun t => After s t s.byteAt (Same s.flags) ∧
      ∃ c, t.log.cycles = s.log.cycles ++ c ∧ c ≠ [] ∧
        ∀ b ∈ c, b.kind = .memr ∧ (b.addr = some (s.addr (s.segOf m) (s.ea m)) ∨
          b.addr = some (s.addr (s.segOf m) (s.ea m + 1))))
end

