-- ==== Sys2Proof/Laws/State.lean ====
section
/-! SUPPORT. What each update of the state does to each field: one lemma a field, all true by definition, so that no
proof unfolds a record update. -/

namespace Sys2Proof.Machine

variable (s : State)

/-! ### `setReg16` -/

@[simp] theorem State.setReg16_regs (r : Reg16) (v : Word) : (s.setReg16 r v).regs = s.regs.put16 r v := rfl
@[simp] theorem State.setReg16_segs (r : Reg16) (v : Word) : (s.setReg16 r v).segs = s.segs := rfl
@[simp] theorem State.setReg16_ip (r : Reg16) (v : Word) : (s.setReg16 r v).ip = s.ip := rfl
@[simp] theorem State.setReg16_flags (r : Reg16) (v : Word) : (s.setReg16 r v).flags = s.flags := rfl
@[simp] theorem State.setReg16_queue (r : Reg16) (v : Word) : (s.setReg16 r v).queue = s.queue := rfl
@[simp] theorem State.setReg16_halted (r : Reg16) (v : Word) : (s.setReg16 r v).halted = s.halted := rfl
@[simp] theorem State.setReg16_locked (r : Reg16) (v : Word) : (s.setReg16 r v).locked = s.locked := rfl
@[simp] theorem State.setReg16_armed (r : Reg16) (v : Word) : (s.setReg16 r v).armed = s.armed := rfl
@[simp] theorem State.setReg16_inProgress (r : Reg16) (v : Word) : (s.setReg16 r v).inProgress = s.inProgress := rfl
@[simp] theorem State.setReg16_nmiLatch (r : Reg16) (v : Word) : (s.setReg16 r v).nmiLatch = s.nmiLatch := rfl
@[simp] theorem State.setReg16_shadow (r : Reg16) (v : Word) : (s.setReg16 r v).shadow = s.shadow := rfl
@[simp] theorem State.setReg16_trap (r : Reg16) (v : Word) : (s.setReg16 r v).trap = s.trap := rfl
@[simp] theorem State.setReg16_unstarted (r : Reg16) (v : Word) : (s.setReg16 r v).unstarted = s.unstarted := rfl
@[simp] theorem State.setReg16_owner (r : Reg16) (v : Word) : (s.setReg16 r v).owner = s.owner := rfl
@[simp] theorem State.setReg16_ch0 (r : Reg16) (v : Word) : (s.setReg16 r v).ch0 = s.ch0 := rfl
@[simp] theorem State.setReg16_ch1 (r : Reg16) (v : Word) : (s.setReg16 r v).ch1 = s.ch1 := rfl
@[simp] theorem State.setReg16_hung (r : Reg16) (v : Word) : (s.setReg16 r v).hung = s.hung := rfl
@[simp] theorem State.setReg16_stuck (r : Reg16) (v : Word) : (s.setReg16 r v).stuck = s.stuck := rfl
@[simp] theorem State.setReg16_waits (r : Reg16) (v : Word) : (s.setReg16 r v).waits = s.waits := rfl
@[simp] theorem State.setReg16_pins (r : Reg16) (v : Word) : (s.setReg16 r v).pins = s.pins := rfl
@[simp] theorem State.setReg16_mem (r : Reg16) (v : Word) : (s.setReg16 r v).mem = s.mem := rfl
@[simp] theorem State.setReg16_devices (r : Reg16) (v : Word) : (s.setReg16 r v).devices = s.devices := rfl
@[simp] theorem State.setReg16_params (r : Reg16) (v : Word) : (s.setReg16 r v).params = s.params := rfl
@[simp] theorem State.setReg16_draws (r : Reg16) (v : Word) : (s.setReg16 r v).draws = s.draws := rfl
@[simp] theorem State.setReg16_floats (r : Reg16) (v : Word) : (s.setReg16 r v).floats = s.floats := rfl
@[simp] theorem State.setReg16_script (r : Reg16) (v : Word) : (s.setReg16 r v).script = s.script := rfl
@[simp] theorem State.setReg16_midway (r : Reg16) (v : Word) : (s.setReg16 r v).midway = s.midway := rfl
@[simp] theorem State.setReg16_flight (r : Reg16) (v : Word) : (s.setReg16 r v).flight = s.flight := rfl
@[simp] theorem State.setReg16_log (r : Reg16) (v : Word) : (s.setReg16 r v).log = s.log := rfl

/-! ### `setReg8` -/

@[simp] theorem State.setReg8_regs (r : Reg8) (v : Byte) : (s.setReg8 r v).regs = s.regs.put8 r v := rfl
@[simp] theorem State.setReg8_segs (r : Reg8) (v : Byte) : (s.setReg8 r v).segs = s.segs := rfl
@[simp] theorem State.setReg8_ip (r : Reg8) (v : Byte) : (s.setReg8 r v).ip = s.ip := rfl
@[simp] theorem State.setReg8_flags (r : Reg8) (v : Byte) : (s.setReg8 r v).flags = s.flags := rfl
@[simp] theorem State.setReg8_queue (r : Reg8) (v : Byte) : (s.setReg8 r v).queue = s.queue := rfl
@[simp] theorem State.setReg8_halted (r : Reg8) (v : Byte) : (s.setReg8 r v).halted = s.halted := rfl
@[simp] theorem State.setReg8_locked (r : Reg8) (v : Byte) : (s.setReg8 r v).locked = s.locked := rfl
@[simp] theorem State.setReg8_armed (r : Reg8) (v : Byte) : (s.setReg8 r v).armed = s.armed := rfl
@[simp] theorem State.setReg8_inProgress (r : Reg8) (v : Byte) : (s.setReg8 r v).inProgress = s.inProgress := rfl
@[simp] theorem State.setReg8_nmiLatch (r : Reg8) (v : Byte) : (s.setReg8 r v).nmiLatch = s.nmiLatch := rfl
@[simp] theorem State.setReg8_shadow (r : Reg8) (v : Byte) : (s.setReg8 r v).shadow = s.shadow := rfl
@[simp] theorem State.setReg8_trap (r : Reg8) (v : Byte) : (s.setReg8 r v).trap = s.trap := rfl
@[simp] theorem State.setReg8_unstarted (r : Reg8) (v : Byte) : (s.setReg8 r v).unstarted = s.unstarted := rfl
@[simp] theorem State.setReg8_owner (r : Reg8) (v : Byte) : (s.setReg8 r v).owner = s.owner := rfl
@[simp] theorem State.setReg8_ch0 (r : Reg8) (v : Byte) : (s.setReg8 r v).ch0 = s.ch0 := rfl
@[simp] theorem State.setReg8_ch1 (r : Reg8) (v : Byte) : (s.setReg8 r v).ch1 = s.ch1 := rfl
@[simp] theorem State.setReg8_hung (r : Reg8) (v : Byte) : (s.setReg8 r v).hung = s.hung := rfl
@[simp] theorem State.setReg8_stuck (r : Reg8) (v : Byte) : (s.setReg8 r v).stuck = s.stuck := rfl
@[simp] theorem State.setReg8_waits (r : Reg8) (v : Byte) : (s.setReg8 r v).waits = s.waits := rfl
@[simp] theorem State.setReg8_pins (r : Reg8) (v : Byte) : (s.setReg8 r v).pins = s.pins := rfl
@[simp] theorem State.setReg8_mem (r : Reg8) (v : Byte) : (s.setReg8 r v).mem = s.mem := rfl
@[simp] theorem State.setReg8_devices (r : Reg8) (v : Byte) : (s.setReg8 r v).devices = s.devices := rfl
@[simp] theorem State.setReg8_params (r : Reg8) (v : Byte) : (s.setReg8 r v).params = s.params := rfl
@[simp] theorem State.setReg8_draws (r : Reg8) (v : Byte) : (s.setReg8 r v).draws = s.draws := rfl
@[simp] theorem State.setReg8_floats (r : Reg8) (v : Byte) : (s.setReg8 r v).floats = s.floats := rfl
@[simp] theorem State.setReg8_script (r : Reg8) (v : Byte) : (s.setReg8 r v).script = s.script := rfl
@[simp] theorem State.setReg8_midway (r : Reg8) (v : Byte) : (s.setReg8 r v).midway = s.midway := rfl
@[simp] theorem State.setReg8_flight (r : Reg8) (v : Byte) : (s.setReg8 r v).flight = s.flight := rfl
@[simp] theorem State.setReg8_log (r : Reg8) (v : Byte) : (s.setReg8 r v).log = s.log := rfl

/-! ### `setSegReg` -/

@[simp] theorem State.setSegReg_regs (g : SegReg) (v : Word) : (s.setSegReg g v).regs = s.regs := rfl
@[simp] theorem State.setSegReg_segs (g : SegReg) (v : Word) : (s.setSegReg g v).segs = s.segs.put g v := rfl
@[simp] theorem State.setSegReg_ip (g : SegReg) (v : Word) : (s.setSegReg g v).ip = s.ip := rfl
@[simp] theorem State.setSegReg_flags (g : SegReg) (v : Word) : (s.setSegReg g v).flags = s.flags := rfl
@[simp] theorem State.setSegReg_queue (g : SegReg) (v : Word) : (s.setSegReg g v).queue = s.queue := rfl
@[simp] theorem State.setSegReg_halted (g : SegReg) (v : Word) : (s.setSegReg g v).halted = s.halted := rfl
@[simp] theorem State.setSegReg_locked (g : SegReg) (v : Word) : (s.setSegReg g v).locked = s.locked := rfl
@[simp] theorem State.setSegReg_armed (g : SegReg) (v : Word) : (s.setSegReg g v).armed = s.armed := rfl
@[simp] theorem State.setSegReg_inProgress (g : SegReg) (v : Word) :
    (s.setSegReg g v).inProgress = s.inProgress := rfl
@[simp] theorem State.setSegReg_nmiLatch (g : SegReg) (v : Word) : (s.setSegReg g v).nmiLatch = s.nmiLatch := rfl
@[simp] theorem State.setSegReg_shadow (g : SegReg) (v : Word) : (s.setSegReg g v).shadow = s.shadow := rfl
@[simp] theorem State.setSegReg_trap (g : SegReg) (v : Word) : (s.setSegReg g v).trap = s.trap := rfl
@[simp] theorem State.setSegReg_unstarted (g : SegReg) (v : Word) : (s.setSegReg g v).unstarted = s.unstarted := rfl
@[simp] theorem State.setSegReg_owner (g : SegReg) (v : Word) : (s.setSegReg g v).owner = s.owner := rfl
@[simp] theorem State.setSegReg_ch0 (g : SegReg) (v : Word) : (s.setSegReg g v).ch0 = s.ch0 := rfl
@[simp] theorem State.setSegReg_ch1 (g : SegReg) (v : Word) : (s.setSegReg g v).ch1 = s.ch1 := rfl
@[simp] theorem State.setSegReg_hung (g : SegReg) (v : Word) : (s.setSegReg g v).hung = s.hung := rfl
@[simp] theorem State.setSegReg_stuck (g : SegReg) (v : Word) : (s.setSegReg g v).stuck = s.stuck := rfl
@[simp] theorem State.setSegReg_waits (g : SegReg) (v : Word) : (s.setSegReg g v).waits = s.waits := rfl
@[simp] theorem State.setSegReg_pins (g : SegReg) (v : Word) : (s.setSegReg g v).pins = s.pins := rfl
@[simp] theorem State.setSegReg_mem (g : SegReg) (v : Word) : (s.setSegReg g v).mem = s.mem := rfl
@[simp] theorem State.setSegReg_devices (g : SegReg) (v : Word) : (s.setSegReg g v).devices = s.devices := rfl
@[simp] theorem State.setSegReg_params (g : SegReg) (v : Word) : (s.setSegReg g v).params = s.params := rfl
@[simp] theorem State.setSegReg_draws (g : SegReg) (v : Word) : (s.setSegReg g v).draws = s.draws := rfl
@[simp] theorem State.setSegReg_floats (g : SegReg) (v : Word) : (s.setSegReg g v).floats = s.floats := rfl
@[simp] theorem State.setSegReg_script (g : SegReg) (v : Word) : (s.setSegReg g v).script = s.script := rfl
@[simp] theorem State.setSegReg_midway (g : SegReg) (v : Word) : (s.setSegReg g v).midway = s.midway := rfl
@[simp] theorem State.setSegReg_flight (g : SegReg) (v : Word) : (s.setSegReg g v).flight = s.flight := rfl
@[simp] theorem State.setSegReg_log (g : SegReg) (v : Word) : (s.setSegReg g v).log = s.log := rfl

/-! ### `withRegisters` -/

@[simp] theorem State.withRegisters_regs (r : Registers) : (s.withRegisters r).regs = r.regs := rfl
@[simp] theorem State.withRegisters_segs (r : Registers) : (s.withRegisters r).segs = r.segs := rfl
@[simp] theorem State.withRegisters_ip (r : Registers) : (s.withRegisters r).ip = r.ip := rfl
@[simp] theorem State.withRegisters_flags (r : Registers) : (s.withRegisters r).flags = r.flags := rfl
@[simp] theorem State.withRegisters_queue (r : Registers) : (s.withRegisters r).queue = s.queue := rfl
@[simp] theorem State.withRegisters_halted (r : Registers) : (s.withRegisters r).halted = s.halted := rfl
@[simp] theorem State.withRegisters_locked (r : Registers) : (s.withRegisters r).locked = s.locked := rfl
@[simp] theorem State.withRegisters_armed (r : Registers) : (s.withRegisters r).armed = s.armed := rfl
@[simp] theorem State.withRegisters_inProgress (r : Registers) : (s.withRegisters r).inProgress = s.inProgress := rfl
@[simp] theorem State.withRegisters_nmiLatch (r : Registers) : (s.withRegisters r).nmiLatch = s.nmiLatch := rfl
@[simp] theorem State.withRegisters_shadow (r : Registers) : (s.withRegisters r).shadow = s.shadow := rfl
@[simp] theorem State.withRegisters_trap (r : Registers) : (s.withRegisters r).trap = s.trap := rfl
@[simp] theorem State.withRegisters_unstarted (r : Registers) : (s.withRegisters r).unstarted = s.unstarted := rfl
@[simp] theorem State.withRegisters_owner (r : Registers) : (s.withRegisters r).owner = s.owner := rfl
@[simp] theorem State.withRegisters_ch0 (r : Registers) : (s.withRegisters r).ch0 = s.ch0 := rfl
@[simp] theorem State.withRegisters_ch1 (r : Registers) : (s.withRegisters r).ch1 = s.ch1 := rfl
@[simp] theorem State.withRegisters_hung (r : Registers) : (s.withRegisters r).hung = s.hung := rfl
@[simp] theorem State.withRegisters_stuck (r : Registers) : (s.withRegisters r).stuck = s.stuck := rfl
@[simp] theorem State.withRegisters_waits (r : Registers) : (s.withRegisters r).waits = s.waits := rfl
@[simp] theorem State.withRegisters_pins (r : Registers) : (s.withRegisters r).pins = s.pins := rfl
@[simp] theorem State.withRegisters_mem (r : Registers) : (s.withRegisters r).mem = s.mem := rfl
@[simp] theorem State.withRegisters_devices (r : Registers) : (s.withRegisters r).devices = s.devices := rfl
@[simp] theorem State.withRegisters_params (r : Registers) : (s.withRegisters r).params = s.params := rfl
@[simp] theorem State.withRegisters_draws (r : Registers) : (s.withRegisters r).draws = s.draws := rfl
@[simp] theorem State.withRegisters_floats (r : Registers) : (s.withRegisters r).floats = s.floats := rfl
@[simp] theorem State.withRegisters_script (r : Registers) : (s.withRegisters r).script = s.script := rfl
@[simp] theorem State.withRegisters_midway (r : Registers) : (s.withRegisters r).midway = s.midway := rfl
@[simp] theorem State.withRegisters_flight (r : Registers) : (s.withRegisters r).flight = s.flight := rfl
@[simp] theorem State.withRegisters_log (r : Registers) : (s.withRegisters r).log = s.log := rfl

/-! ### `setFlags` -/

@[simp] theorem State.setFlags_regs (f : Flags) : (s.setFlags f).regs = s.regs := rfl
@[simp] theorem State.setFlags_segs (f : Flags) : (s.setFlags f).segs = s.segs := rfl
@[simp] theorem State.setFlags_ip (f : Flags) : (s.setFlags f).ip = s.ip := rfl
@[simp] theorem State.setFlags_flags (f : Flags) : (s.setFlags f).flags = f := rfl
@[simp] theorem State.setFlags_queue (f : Flags) : (s.setFlags f).queue = s.queue := rfl
@[simp] theorem State.setFlags_halted (f : Flags) : (s.setFlags f).halted = s.halted := rfl
@[simp] theorem State.setFlags_locked (f : Flags) : (s.setFlags f).locked = s.locked := rfl
@[simp] theorem State.setFlags_armed (f : Flags) : (s.setFlags f).armed = s.armed := rfl
@[simp] theorem State.setFlags_inProgress (f : Flags) : (s.setFlags f).inProgress = s.inProgress := rfl
@[simp] theorem State.setFlags_nmiLatch (f : Flags) : (s.setFlags f).nmiLatch = s.nmiLatch := rfl
@[simp] theorem State.setFlags_shadow (f : Flags) : (s.setFlags f).shadow = s.shadow := rfl
@[simp] theorem State.setFlags_trap (f : Flags) : (s.setFlags f).trap = s.trap := rfl
@[simp] theorem State.setFlags_unstarted (f : Flags) : (s.setFlags f).unstarted = s.unstarted := rfl
@[simp] theorem State.setFlags_owner (f : Flags) : (s.setFlags f).owner = s.owner := rfl
@[simp] theorem State.setFlags_ch0 (f : Flags) : (s.setFlags f).ch0 = s.ch0 := rfl
@[simp] theorem State.setFlags_ch1 (f : Flags) : (s.setFlags f).ch1 = s.ch1 := rfl
@[simp] theorem State.setFlags_hung (f : Flags) : (s.setFlags f).hung = s.hung := rfl
@[simp] theorem State.setFlags_stuck (f : Flags) : (s.setFlags f).stuck = s.stuck := rfl
@[simp] theorem State.setFlags_waits (f : Flags) : (s.setFlags f).waits = s.waits := rfl
@[simp] theorem State.setFlags_pins (f : Flags) : (s.setFlags f).pins = s.pins := rfl
@[simp] theorem State.setFlags_mem (f : Flags) : (s.setFlags f).mem = s.mem := rfl
@[simp] theorem State.setFlags_devices (f : Flags) : (s.setFlags f).devices = s.devices := rfl
@[simp] theorem State.setFlags_params (f : Flags) : (s.setFlags f).params = s.params := rfl
@[simp] theorem State.setFlags_draws (f : Flags) : (s.setFlags f).draws = s.draws := rfl
@[simp] theorem State.setFlags_floats (f : Flags) : (s.setFlags f).floats = s.floats := rfl
@[simp] theorem State.setFlags_script (f : Flags) : (s.setFlags f).script = s.script := rfl
@[simp] theorem State.setFlags_midway (f : Flags) : (s.setFlags f).midway = s.midway := rfl
@[simp] theorem State.setFlags_flight (f : Flags) : (s.setFlags f).flight = s.flight := rfl
@[simp] theorem State.setFlags_log (f : Flags) : (s.setFlags f).log = s.log := rfl

/-! ### `drawBit` -/

@[simp] theorem State.drawBit_regs : (s.drawBit.2).regs = s.regs := rfl
@[simp] theorem State.drawBit_segs : (s.drawBit.2).segs = s.segs := rfl
@[simp] theorem State.drawBit_ip : (s.drawBit.2).ip = s.ip := rfl
@[simp] theorem State.drawBit_flags : (s.drawBit.2).flags = s.flags := rfl
@[simp] theorem State.drawBit_queue : (s.drawBit.2).queue = s.queue := rfl
@[simp] theorem State.drawBit_halted : (s.drawBit.2).halted = s.halted := rfl
@[simp] theorem State.drawBit_locked : (s.drawBit.2).locked = s.locked := rfl
@[simp] theorem State.drawBit_armed : (s.drawBit.2).armed = s.armed := rfl
@[simp] theorem State.drawBit_inProgress : (s.drawBit.2).inProgress = s.inProgress := rfl
@[simp] theorem State.drawBit_nmiLatch : (s.drawBit.2).nmiLatch = s.nmiLatch := rfl
@[simp] theorem State.drawBit_shadow : (s.drawBit.2).shadow = s.shadow := rfl
@[simp] theorem State.drawBit_trap : (s.drawBit.2).trap = s.trap := rfl
@[simp] theorem State.drawBit_unstarted : (s.drawBit.2).unstarted = s.unstarted := rfl
@[simp] theorem State.drawBit_owner : (s.drawBit.2).owner = s.owner := rfl
@[simp] theorem State.drawBit_ch0 : (s.drawBit.2).ch0 = s.ch0 := rfl
@[simp] theorem State.drawBit_ch1 : (s.drawBit.2).ch1 = s.ch1 := rfl
@[simp] theorem State.drawBit_hung : (s.drawBit.2).hung = s.hung := rfl
@[simp] theorem State.drawBit_stuck : (s.drawBit.2).stuck = s.stuck := rfl
@[simp] theorem State.drawBit_waits : (s.drawBit.2).waits = s.waits := rfl
@[simp] theorem State.drawBit_pins : (s.drawBit.2).pins = s.pins := rfl
@[simp] theorem State.drawBit_mem : (s.drawBit.2).mem = s.mem := rfl
@[simp] theorem State.drawBit_devices : (s.drawBit.2).devices = s.devices := rfl
@[simp] theorem State.drawBit_params : (s.drawBit.2).params = s.params := rfl
@[simp] theorem State.drawBit_draws : (s.drawBit.2).draws = s.draws + 1 := rfl
@[simp] theorem State.drawBit_floats : (s.drawBit.2).floats = s.floats := rfl
@[simp] theorem State.drawBit_script : (s.drawBit.2).script = s.script := rfl
@[simp] theorem State.drawBit_midway : (s.drawBit.2).midway = s.midway := rfl
@[simp] theorem State.drawBit_flight : (s.drawBit.2).flight = s.flight := rfl
@[simp] theorem State.drawBit_log : (s.drawBit.2).log = s.log := rfl

/-! ### `drawByte` -/

@[simp] theorem State.drawByte_regs : (s.drawByte.2).regs = s.regs := rfl
@[simp] theorem State.drawByte_segs : (s.drawByte.2).segs = s.segs := rfl
@[simp] theorem State.drawByte_ip : (s.drawByte.2).ip = s.ip := rfl
@[simp] theorem State.drawByte_flags : (s.drawByte.2).flags = s.flags := rfl
@[simp] theorem State.drawByte_queue : (s.drawByte.2).queue = s.queue := rfl
@[simp] theorem State.drawByte_halted : (s.drawByte.2).halted = s.halted := rfl
@[simp] theorem State.drawByte_locked : (s.drawByte.2).locked = s.locked := rfl
@[simp] theorem State.drawByte_armed : (s.drawByte.2).armed = s.armed := rfl
@[simp] theorem State.drawByte_inProgress : (s.drawByte.2).inProgress = s.inProgress := rfl
@[simp] theorem State.drawByte_nmiLatch : (s.drawByte.2).nmiLatch = s.nmiLatch := rfl
@[simp] theorem State.drawByte_shadow : (s.drawByte.2).shadow = s.shadow := rfl
@[simp] theorem State.drawByte_trap : (s.drawByte.2).trap = s.trap := rfl
@[simp] theorem State.drawByte_unstarted : (s.drawByte.2).unstarted = s.unstarted := rfl
@[simp] theorem State.drawByte_owner : (s.drawByte.2).owner = s.owner := rfl
@[simp] theorem State.drawByte_ch0 : (s.drawByte.2).ch0 = s.ch0 := rfl
@[simp] theorem State.drawByte_ch1 : (s.drawByte.2).ch1 = s.ch1 := rfl
@[simp] theorem State.drawByte_hung : (s.drawByte.2).hung = s.hung := rfl
@[simp] theorem State.drawByte_stuck : (s.drawByte.2).stuck = s.stuck := rfl
@[simp] theorem State.drawByte_waits : (s.drawByte.2).waits = s.waits := rfl
@[simp] theorem State.drawByte_pins : (s.drawByte.2).pins = s.pins := rfl
@[simp] theorem State.drawByte_mem : (s.drawByte.2).mem = s.mem := rfl
@[simp] theorem State.drawByte_devices : (s.drawByte.2).devices = s.devices := rfl
@[simp] theorem State.drawByte_params : (s.drawByte.2).params = s.params := rfl
@[simp] theorem State.drawByte_draws : (s.drawByte.2).draws = s.draws + 1 := rfl
@[simp] theorem State.drawByte_floats : (s.drawByte.2).floats = s.floats := rfl
@[simp] theorem State.drawByte_script : (s.drawByte.2).script = s.script := rfl
@[simp] theorem State.drawByte_midway : (s.drawByte.2).midway = s.midway := rfl
@[simp] theorem State.drawByte_flight : (s.drawByte.2).flight = s.flight := rfl
@[simp] theorem State.drawByte_log : (s.drawByte.2).log = s.log := rfl

/-! ### `drawWord` -/

@[simp] theorem State.drawWord_regs : (s.drawWord.2).regs = s.regs := rfl
@[simp] theorem State.drawWord_segs : (s.drawWord.2).segs = s.segs := rfl
@[simp] theorem State.drawWord_ip : (s.drawWord.2).ip = s.ip := rfl
@[simp] theorem State.drawWord_flags : (s.drawWord.2).flags = s.flags := rfl
@[simp] theorem State.drawWord_queue : (s.drawWord.2).queue = s.queue := rfl
@[simp] theorem State.drawWord_halted : (s.drawWord.2).halted = s.halted := rfl
@[simp] theorem State.drawWord_locked : (s.drawWord.2).locked = s.locked := rfl
@[simp] theorem State.drawWord_armed : (s.drawWord.2).armed = s.armed := rfl
@[simp] theorem State.drawWord_inProgress : (s.drawWord.2).inProgress = s.inProgress := rfl
@[simp] theorem State.drawWord_nmiLatch : (s.drawWord.2).nmiLatch = s.nmiLatch := rfl
@[simp] theorem State.drawWord_shadow : (s.drawWord.2).shadow = s.shadow := rfl
@[simp] theorem State.drawWord_trap : (s.drawWord.2).trap = s.trap := rfl
@[simp] theorem State.drawWord_unstarted : (s.drawWord.2).unstarted = s.unstarted := rfl
@[simp] theorem State.drawWord_owner : (s.drawWord.2).owner = s.owner := rfl
@[simp] theorem State.drawWord_ch0 : (s.drawWord.2).ch0 = s.ch0 := rfl
@[simp] theorem State.drawWord_ch1 : (s.drawWord.2).ch1 = s.ch1 := rfl
@[simp] theorem State.drawWord_hung : (s.drawWord.2).hung = s.hung := rfl
@[simp] theorem State.drawWord_stuck : (s.drawWord.2).stuck = s.stuck := rfl
@[simp] theorem State.drawWord_waits : (s.drawWord.2).waits = s.waits := rfl
@[simp] theorem State.drawWord_pins : (s.drawWord.2).pins = s.pins := rfl
@[simp] theorem State.drawWord_mem : (s.drawWord.2).mem = s.mem := rfl
@[simp] theorem State.drawWord_devices : (s.drawWord.2).devices = s.devices := rfl
@[simp] theorem State.drawWord_params : (s.drawWord.2).params = s.params := rfl
@[simp] theorem State.drawWord_draws : (s.drawWord.2).draws = s.draws + 1 := rfl
@[simp] theorem State.drawWord_floats : (s.drawWord.2).floats = s.floats := rfl
@[simp] theorem State.drawWord_script : (s.drawWord.2).script = s.script := rfl
@[simp] theorem State.drawWord_midway : (s.drawWord.2).midway = s.midway := rfl
@[simp] theorem State.drawWord_flight : (s.drawWord.2).flight = s.flight := rfl
@[simp] theorem State.drawWord_log : (s.drawWord.2).log = s.log := rfl

/-! ### `floatByte` -/

@[simp] theorem State.floatByte_regs : (s.floatByte.2).regs = s.regs := rfl
@[simp] theorem State.floatByte_segs : (s.floatByte.2).segs = s.segs := rfl
@[simp] theorem State.floatByte_ip : (s.floatByte.2).ip = s.ip := rfl
@[simp] theorem State.floatByte_flags : (s.floatByte.2).flags = s.flags := rfl
@[simp] theorem State.floatByte_queue : (s.floatByte.2).queue = s.queue := rfl
@[simp] theorem State.floatByte_halted : (s.floatByte.2).halted = s.halted := rfl
@[simp] theorem State.floatByte_locked : (s.floatByte.2).locked = s.locked := rfl
@[simp] theorem State.floatByte_armed : (s.floatByte.2).armed = s.armed := rfl
@[simp] theorem State.floatByte_inProgress : (s.floatByte.2).inProgress = s.inProgress := rfl
@[simp] theorem State.floatByte_nmiLatch : (s.floatByte.2).nmiLatch = s.nmiLatch := rfl
@[simp] theorem State.floatByte_shadow : (s.floatByte.2).shadow = s.shadow := rfl
@[simp] theorem State.floatByte_trap : (s.floatByte.2).trap = s.trap := rfl
@[simp] theorem State.floatByte_unstarted : (s.floatByte.2).unstarted = s.unstarted := rfl
@[simp] theorem State.floatByte_owner : (s.floatByte.2).owner = s.owner := rfl
@[simp] theorem State.floatByte_ch0 : (s.floatByte.2).ch0 = s.ch0 := rfl
@[simp] theorem State.floatByte_ch1 : (s.floatByte.2).ch1 = s.ch1 := rfl
@[simp] theorem State.floatByte_hung : (s.floatByte.2).hung = s.hung := rfl
@[simp] theorem State.floatByte_stuck : (s.floatByte.2).stuck = s.stuck := rfl
@[simp] theorem State.floatByte_waits : (s.floatByte.2).waits = s.waits := rfl
@[simp] theorem State.floatByte_pins : (s.floatByte.2).pins = s.pins := rfl
@[simp] theorem State.floatByte_mem : (s.floatByte.2).mem = s.mem := rfl
@[simp] theorem State.floatByte_devices : (s.floatByte.2).devices = s.devices := rfl
@[simp] theorem State.floatByte_params : (s.floatByte.2).params = s.params := rfl
@[simp] theorem State.floatByte_draws : (s.floatByte.2).draws = s.draws := rfl
@[simp] theorem State.floatByte_floats : (s.floatByte.2).floats = s.floats + 1 := rfl
@[simp] theorem State.floatByte_script : (s.floatByte.2).script = s.script := rfl
@[simp] theorem State.floatByte_midway : (s.floatByte.2).midway = s.midway := rfl
@[simp] theorem State.floatByte_flight : (s.floatByte.2).flight = s.flight := rfl
@[simp] theorem State.floatByte_log : (s.floatByte.2).log = s.log := rfl

/-! ### `record` -/

@[simp] theorem State.record_regs (c : BusCycle) : (s.record c).regs = s.regs := rfl
@[simp] theorem State.record_segs (c : BusCycle) : (s.record c).segs = s.segs := rfl
@[simp] theorem State.record_ip (c : BusCycle) : (s.record c).ip = s.ip := rfl
@[simp] theorem State.record_flags (c : BusCycle) : (s.record c).flags = s.flags := rfl
@[simp] theorem State.record_queue (c : BusCycle) : (s.record c).queue = s.queue := rfl
@[simp] theorem State.record_halted (c : BusCycle) : (s.record c).halted = s.halted := rfl
@[simp] theorem State.record_locked (c : BusCycle) : (s.record c).locked = s.locked := rfl
@[simp] theorem State.record_armed (c : BusCycle) : (s.record c).armed = s.armed := rfl
@[simp] theorem State.record_inProgress (c : BusCycle) : (s.record c).inProgress = s.inProgress := rfl
@[simp] theorem State.record_nmiLatch (c : BusCycle) : (s.record c).nmiLatch = s.nmiLatch := rfl
@[simp] theorem State.record_shadow (c : BusCycle) : (s.record c).shadow = s.shadow := rfl
@[simp] theorem State.record_trap (c : BusCycle) : (s.record c).trap = s.trap := rfl
@[simp] theorem State.record_unstarted (c : BusCycle) : (s.record c).unstarted = s.unstarted := rfl
@[simp] theorem State.record_owner (c : BusCycle) : (s.record c).owner = s.owner := rfl
@[simp] theorem State.record_ch0 (c : BusCycle) : (s.record c).ch0 = s.ch0 := rfl
@[simp] theorem State.record_ch1 (c : BusCycle) : (s.record c).ch1 = s.ch1 := rfl
@[simp] theorem State.record_hung (c : BusCycle) : (s.record c).hung = s.hung := rfl
@[simp] theorem State.record_stuck (c : BusCycle) : (s.record c).stuck = s.stuck := rfl
@[simp] theorem State.record_waits (c : BusCycle) : (s.record c).waits = 0 := rfl
@[simp] theorem State.record_pins (c : BusCycle) : (s.record c).pins = s.pins := rfl
@[simp] theorem State.record_mem (c : BusCycle) : (s.record c).mem = s.mem := rfl
@[simp] theorem State.record_devices (c : BusCycle) : (s.record c).devices = s.devices := rfl
@[simp] theorem State.record_params (c : BusCycle) : (s.record c).params = s.params := rfl
@[simp] theorem State.record_draws (c : BusCycle) : (s.record c).draws = s.draws := rfl
@[simp] theorem State.record_floats (c : BusCycle) : (s.record c).floats = s.floats := rfl
@[simp] theorem State.record_script (c : BusCycle) : (s.record c).script = s.script := rfl
@[simp] theorem State.record_midway (c : BusCycle) : (s.record c).midway = s.midway := rfl
@[simp] theorem State.record_flight (c : BusCycle) : (s.record c).flight = s.flight := rfl
@[simp] theorem State.record_log (c : BusCycle) :
    (s.record c).log = { s.log with cycles := s.log.cycles ++ [c] } := rfl

/-! ### `pulse` -/

@[simp] theorem State.pulse_regs (ch : Bool) : (s.pulse ch).regs = s.regs := rfl
@[simp] theorem State.pulse_segs (ch : Bool) : (s.pulse ch).segs = s.segs := rfl
@[simp] theorem State.pulse_ip (ch : Bool) : (s.pulse ch).ip = s.ip := rfl
@[simp] theorem State.pulse_flags (ch : Bool) : (s.pulse ch).flags = s.flags := rfl
@[simp] theorem State.pulse_queue (ch : Bool) : (s.pulse ch).queue = s.queue := rfl
@[simp] theorem State.pulse_halted (ch : Bool) : (s.pulse ch).halted = s.halted := rfl
@[simp] theorem State.pulse_locked (ch : Bool) : (s.pulse ch).locked = s.locked := rfl
@[simp] theorem State.pulse_armed (ch : Bool) : (s.pulse ch).armed = s.armed := rfl
@[simp] theorem State.pulse_inProgress (ch : Bool) : (s.pulse ch).inProgress = s.inProgress := rfl
@[simp] theorem State.pulse_nmiLatch (ch : Bool) : (s.pulse ch).nmiLatch = s.nmiLatch := rfl
@[simp] theorem State.pulse_shadow (ch : Bool) : (s.pulse ch).shadow = s.shadow := rfl
@[simp] theorem State.pulse_trap (ch : Bool) : (s.pulse ch).trap = s.trap := rfl
@[simp] theorem State.pulse_unstarted (ch : Bool) : (s.pulse ch).unstarted = s.unstarted := rfl
@[simp] theorem State.pulse_owner (ch : Bool) : (s.pulse ch).owner = s.owner := rfl
@[simp] theorem State.pulse_ch0 (ch : Bool) : (s.pulse ch).ch0 = s.ch0 := rfl
@[simp] theorem State.pulse_ch1 (ch : Bool) : (s.pulse ch).ch1 = s.ch1 := rfl
@[simp] theorem State.pulse_hung (ch : Bool) : (s.pulse ch).hung = s.hung := rfl
@[simp] theorem State.pulse_stuck (ch : Bool) : (s.pulse ch).stuck = s.stuck := rfl
@[simp] theorem State.pulse_waits (ch : Bool) : (s.pulse ch).waits = s.waits := rfl
@[simp] theorem State.pulse_pins (ch : Bool) : (s.pulse ch).pins = s.pins := rfl
@[simp] theorem State.pulse_mem (ch : Bool) : (s.pulse ch).mem = s.mem := rfl
@[simp] theorem State.pulse_devices (ch : Bool) : (s.pulse ch).devices = s.devices := rfl
@[simp] theorem State.pulse_params (ch : Bool) : (s.pulse ch).params = s.params := rfl
@[simp] theorem State.pulse_draws (ch : Bool) : (s.pulse ch).draws = s.draws := rfl
@[simp] theorem State.pulse_floats (ch : Bool) : (s.pulse ch).floats = s.floats := rfl
@[simp] theorem State.pulse_script (ch : Bool) : (s.pulse ch).script = s.script := rfl
@[simp] theorem State.pulse_midway (ch : Bool) : (s.pulse ch).midway = s.midway := rfl
@[simp] theorem State.pulse_flight (ch : Bool) : (s.pulse ch).flight = s.flight := rfl
@[simp] theorem State.pulse_log (ch : Bool) : (s.pulse ch).log = { s.log with grants := s.log.grants ++ [ch] } := rfl

/-! ### `stall` -/

@[simp] theorem State.stall_regs (pt : Point) : (s.stall pt).regs = s.regs := rfl
@[simp] theorem State.stall_segs (pt : Point) : (s.stall pt).segs = s.segs := rfl
@[simp] theorem State.stall_ip (pt : Point) : (s.stall pt).ip = s.ip := rfl
@[simp] theorem State.stall_flags (pt : Point) : (s.stall pt).flags = s.flags := rfl
@[simp] theorem State.stall_queue (pt : Point) : (s.stall pt).queue = s.queue := rfl
@[simp] theorem State.stall_halted (pt : Point) : (s.stall pt).halted = s.halted := rfl
@[simp] theorem State.stall_locked (pt : Point) : (s.stall pt).locked = s.locked := rfl
@[simp] theorem State.stall_armed (pt : Point) : (s.stall pt).armed = s.armed := rfl
@[simp] theorem State.stall_inProgress (pt : Point) : (s.stall pt).inProgress = s.inProgress := rfl
@[simp] theorem State.stall_nmiLatch (pt : Point) : (s.stall pt).nmiLatch = s.nmiLatch := rfl
@[simp] theorem State.stall_shadow (pt : Point) : (s.stall pt).shadow = s.shadow := rfl
@[simp] theorem State.stall_trap (pt : Point) : (s.stall pt).trap = s.trap := rfl
@[simp] theorem State.stall_unstarted (pt : Point) : (s.stall pt).unstarted = s.unstarted := rfl
@[simp] theorem State.stall_owner (pt : Point) : (s.stall pt).owner = s.owner := rfl
@[simp] theorem State.stall_ch0 (pt : Point) : (s.stall pt).ch0 = s.ch0 := rfl
@[simp] theorem State.stall_ch1 (pt : Point) : (s.stall pt).ch1 = s.ch1 := rfl
@[simp] theorem State.stall_hung (pt : Point) : (s.stall pt).hung = s.hung := rfl
@[simp] theorem State.stall_stuck (pt : Point) : (s.stall pt).stuck = s.stuck := rfl
@[simp] theorem State.stall_waits (pt : Point) : (s.stall pt).waits = s.waits := rfl
@[simp] theorem State.stall_pins (pt : Point) : (s.stall pt).pins = s.pins := rfl
@[simp] theorem State.stall_mem (pt : Point) : (s.stall pt).mem = s.mem := rfl
@[simp] theorem State.stall_devices (pt : Point) : (s.stall pt).devices = s.devices := rfl
@[simp] theorem State.stall_params (pt : Point) : (s.stall pt).params = s.params := rfl
@[simp] theorem State.stall_draws (pt : Point) : (s.stall pt).draws = s.draws := rfl
@[simp] theorem State.stall_floats (pt : Point) : (s.stall pt).floats = s.floats := rfl
@[simp] theorem State.stall_script (pt : Point) : (s.stall pt).script = s.script := rfl
@[simp] theorem State.stall_midway (pt : Point) : (s.stall pt).midway = s.midway := rfl
@[simp] theorem State.stall_flight (pt : Point) :
    (s.stall pt).flight = { s.flight with stalled := some { point := pt, held := s.registers } } := rfl
@[simp] theorem State.stall_log (pt : Point) : (s.stall pt).log = s.log := rfl

/-! ### `setCut` -/

@[simp] theorem State.setCut_regs (l h : Bool) : (s.setCut l h).regs = s.regs := rfl
@[simp] theorem State.setCut_segs (l h : Bool) : (s.setCut l h).segs = s.segs := rfl
@[simp] theorem State.setCut_ip (l h : Bool) : (s.setCut l h).ip = s.ip := rfl
@[simp] theorem State.setCut_flags (l h : Bool) : (s.setCut l h).flags = s.flags := rfl
@[simp] theorem State.setCut_queue (l h : Bool) : (s.setCut l h).queue = s.queue := rfl
@[simp] theorem State.setCut_halted (l h : Bool) : (s.setCut l h).halted = s.halted := rfl
@[simp] theorem State.setCut_locked (l h : Bool) : (s.setCut l h).locked = s.locked := rfl
@[simp] theorem State.setCut_armed (l h : Bool) : (s.setCut l h).armed = s.armed := rfl
@[simp] theorem State.setCut_inProgress (l h : Bool) : (s.setCut l h).inProgress = s.inProgress := rfl
@[simp] theorem State.setCut_nmiLatch (l h : Bool) : (s.setCut l h).nmiLatch = s.nmiLatch := rfl
@[simp] theorem State.setCut_shadow (l h : Bool) : (s.setCut l h).shadow = s.shadow := rfl
@[simp] theorem State.setCut_trap (l h : Bool) : (s.setCut l h).trap = s.trap := rfl
@[simp] theorem State.setCut_unstarted (l h : Bool) : (s.setCut l h).unstarted = s.unstarted := rfl
@[simp] theorem State.setCut_owner (l h : Bool) : (s.setCut l h).owner = s.owner := rfl
@[simp] theorem State.setCut_ch0 (l h : Bool) : (s.setCut l h).ch0 = s.ch0 := rfl
@[simp] theorem State.setCut_ch1 (l h : Bool) : (s.setCut l h).ch1 = s.ch1 := rfl
@[simp] theorem State.setCut_hung (l h : Bool) : (s.setCut l h).hung = s.hung := rfl
@[simp] theorem State.setCut_stuck (l h : Bool) : (s.setCut l h).stuck = s.stuck := rfl
@[simp] theorem State.setCut_waits (l h : Bool) : (s.setCut l h).waits = s.waits := rfl
@[simp] theorem State.setCut_pins (l h : Bool) : (s.setCut l h).pins = s.pins := rfl
@[simp] theorem State.setCut_mem (l h : Bool) : (s.setCut l h).mem = s.mem := rfl
@[simp] theorem State.setCut_devices (l h : Bool) : (s.setCut l h).devices = s.devices := rfl
@[simp] theorem State.setCut_params (l h : Bool) : (s.setCut l h).params = s.params := rfl
@[simp] theorem State.setCut_draws (l h : Bool) : (s.setCut l h).draws = s.draws := rfl
@[simp] theorem State.setCut_floats (l h : Bool) : (s.setCut l h).floats = s.floats := rfl
@[simp] theorem State.setCut_script (l h : Bool) : (s.setCut l h).script = s.script := rfl
@[simp] theorem State.setCut_midway (l h : Bool) : (s.setCut l h).midway = s.midway := rfl
@[simp] theorem State.setCut_flight (l h : Bool) : (s.setCut l h).flight = { s.flight with cut := some (l, h) } := rfl
@[simp] theorem State.setCut_log (l h : Bool) : (s.setCut l h).log = s.log := rfl

/-! ### `emptyQueue` -/

@[simp] theorem State.emptyQueue_regs : (s.emptyQueue).regs = s.regs := rfl
@[simp] theorem State.emptyQueue_segs : (s.emptyQueue).segs = s.segs := rfl
@[simp] theorem State.emptyQueue_ip : (s.emptyQueue).ip = s.ip := rfl
@[simp] theorem State.emptyQueue_flags : (s.emptyQueue).flags = s.flags := rfl
@[simp] theorem State.emptyQueue_queue : (s.emptyQueue).queue = [] := rfl
@[simp] theorem State.emptyQueue_halted : (s.emptyQueue).halted = s.halted := rfl
@[simp] theorem State.emptyQueue_locked : (s.emptyQueue).locked = s.locked := rfl
@[simp] theorem State.emptyQueue_armed : (s.emptyQueue).armed = s.armed := rfl
@[simp] theorem State.emptyQueue_inProgress : (s.emptyQueue).inProgress = s.inProgress := rfl
@[simp] theorem State.emptyQueue_nmiLatch : (s.emptyQueue).nmiLatch = s.nmiLatch := rfl
@[simp] theorem State.emptyQueue_shadow : (s.emptyQueue).shadow = s.shadow := rfl
@[simp] theorem State.emptyQueue_trap : (s.emptyQueue).trap = s.trap := rfl
@[simp] theorem State.emptyQueue_unstarted : (s.emptyQueue).unstarted = s.unstarted := rfl
@[simp] theorem State.emptyQueue_owner : (s.emptyQueue).owner = s.owner := rfl
@[simp] theorem State.emptyQueue_ch0 : (s.emptyQueue).ch0 = s.ch0 := rfl
@[simp] theorem State.emptyQueue_ch1 : (s.emptyQueue).ch1 = s.ch1 := rfl
@[simp] theorem State.emptyQueue_hung : (s.emptyQueue).hung = s.hung := rfl
@[simp] theorem State.emptyQueue_stuck : (s.emptyQueue).stuck = s.stuck := rfl
@[simp] theorem State.emptyQueue_waits : (s.emptyQueue).waits = s.waits := rfl
@[simp] theorem State.emptyQueue_pins : (s.emptyQueue).pins = s.pins := rfl
@[simp] theorem State.emptyQueue_mem : (s.emptyQueue).mem = s.mem := rfl
@[simp] theorem State.emptyQueue_devices : (s.emptyQueue).devices = s.devices := rfl
@[simp] theorem State.emptyQueue_params : (s.emptyQueue).params = s.params := rfl
@[simp] theorem State.emptyQueue_draws : (s.emptyQueue).draws = s.draws := rfl
@[simp] theorem State.emptyQueue_floats : (s.emptyQueue).floats = s.floats := rfl
@[simp] theorem State.emptyQueue_script : (s.emptyQueue).script = s.script := rfl
@[simp] theorem State.emptyQueue_midway : (s.emptyQueue).midway = s.midway := rfl
@[simp] theorem State.emptyQueue_flight : (s.emptyQueue).flight = s.flight := rfl
@[simp] theorem State.emptyQueue_log : (s.emptyQueue).log = { s.log with queue := s.log.queue ++ [.emptied] } := rfl

/-! ### `setNmi` -/

@[simp] theorem State.setNmi_regs (v : Bool) : (s.setNmi v).regs = s.regs := rfl
@[simp] theorem State.setNmi_segs (v : Bool) : (s.setNmi v).segs = s.segs := rfl
@[simp] theorem State.setNmi_ip (v : Bool) : (s.setNmi v).ip = s.ip := rfl
@[simp] theorem State.setNmi_flags (v : Bool) : (s.setNmi v).flags = s.flags := rfl
@[simp] theorem State.setNmi_queue (v : Bool) : (s.setNmi v).queue = s.queue := rfl
@[simp] theorem State.setNmi_halted (v : Bool) : (s.setNmi v).halted = s.halted := rfl
@[simp] theorem State.setNmi_locked (v : Bool) : (s.setNmi v).locked = s.locked := rfl
@[simp] theorem State.setNmi_armed (v : Bool) : (s.setNmi v).armed = s.armed := rfl
@[simp] theorem State.setNmi_inProgress (v : Bool) : (s.setNmi v).inProgress = s.inProgress := rfl
@[simp] theorem State.setNmi_nmiLatch (v : Bool) : (s.setNmi v).nmiLatch = (s.nmiLatch || (v && !s.pins.nmi)) := rfl
@[simp] theorem State.setNmi_shadow (v : Bool) : (s.setNmi v).shadow = s.shadow := rfl
@[simp] theorem State.setNmi_trap (v : Bool) : (s.setNmi v).trap = s.trap := rfl
@[simp] theorem State.setNmi_unstarted (v : Bool) : (s.setNmi v).unstarted = s.unstarted := rfl
@[simp] theorem State.setNmi_owner (v : Bool) : (s.setNmi v).owner = s.owner := rfl
@[simp] theorem State.setNmi_ch0 (v : Bool) : (s.setNmi v).ch0 = s.ch0 := rfl
@[simp] theorem State.setNmi_ch1 (v : Bool) : (s.setNmi v).ch1 = s.ch1 := rfl
@[simp] theorem State.setNmi_hung (v : Bool) : (s.setNmi v).hung = s.hung := rfl
@[simp] theorem State.setNmi_stuck (v : Bool) : (s.setNmi v).stuck = s.stuck := rfl
@[simp] theorem State.setNmi_waits (v : Bool) : (s.setNmi v).waits = s.waits := rfl
@[simp] theorem State.setNmi_pins (v : Bool) : (s.setNmi v).pins = { s.pins with nmi := v } := rfl
@[simp] theorem State.setNmi_mem (v : Bool) : (s.setNmi v).mem = s.mem := rfl
@[simp] theorem State.setNmi_devices (v : Bool) : (s.setNmi v).devices = s.devices := rfl
@[simp] theorem State.setNmi_params (v : Bool) : (s.setNmi v).params = s.params := rfl
@[simp] theorem State.setNmi_draws (v : Bool) : (s.setNmi v).draws = s.draws := rfl
@[simp] theorem State.setNmi_floats (v : Bool) : (s.setNmi v).floats = s.floats := rfl
@[simp] theorem State.setNmi_script (v : Bool) : (s.setNmi v).script = s.script := rfl
@[simp] theorem State.setNmi_midway (v : Bool) : (s.setNmi v).midway = s.midway := rfl
@[simp] theorem State.setNmi_flight (v : Bool) : (s.setNmi v).flight = s.flight := rfl
@[simp] theorem State.setNmi_log (v : Bool) : (s.setNmi v).log = s.log := rfl

/-! ### `loadSeg` -/

@[simp] theorem State.loadSeg_regs (g : SegReg) (v : Word) : (s.loadSeg g v).regs = s.regs := rfl
@[simp] theorem State.loadSeg_segs (g : SegReg) (v : Word) : (s.loadSeg g v).segs = s.segs.put g v := rfl
@[simp] theorem State.loadSeg_ip (g : SegReg) (v : Word) : (s.loadSeg g v).ip = s.ip := rfl
@[simp] theorem State.loadSeg_flags (g : SegReg) (v : Word) : (s.loadSeg g v).flags = s.flags := rfl
@[simp] theorem State.loadSeg_queue (g : SegReg) (v : Word) : (s.loadSeg g v).queue = s.queue := rfl
@[simp] theorem State.loadSeg_halted (g : SegReg) (v : Word) : (s.loadSeg g v).halted = s.halted := rfl
@[simp] theorem State.loadSeg_locked (g : SegReg) (v : Word) : (s.loadSeg g v).locked = s.locked := rfl
@[simp] theorem State.loadSeg_armed (g : SegReg) (v : Word) : (s.loadSeg g v).armed = s.armed := rfl
@[simp] theorem State.loadSeg_inProgress (g : SegReg) (v : Word) : (s.loadSeg g v).inProgress = s.inProgress := rfl
@[simp] theorem State.loadSeg_nmiLatch (g : SegReg) (v : Word) : (s.loadSeg g v).nmiLatch = s.nmiLatch := rfl
@[simp] theorem State.loadSeg_shadow (g : SegReg) (v : Word) : (s.loadSeg g v).shadow = .all := rfl
@[simp] theorem State.loadSeg_trap (g : SegReg) (v : Word) : (s.loadSeg g v).trap = s.trap := rfl
@[simp] theorem State.loadSeg_unstarted (g : SegReg) (v : Word) : (s.loadSeg g v).unstarted = s.unstarted := rfl
@[simp] theorem State.loadSeg_owner (g : SegReg) (v : Word) : (s.loadSeg g v).owner = s.owner := rfl
@[simp] theorem State.loadSeg_ch0 (g : SegReg) (v : Word) : (s.loadSeg g v).ch0 = s.ch0 := rfl
@[simp] theorem State.loadSeg_ch1 (g : SegReg) (v : Word) : (s.loadSeg g v).ch1 = s.ch1 := rfl
@[simp] theorem State.loadSeg_hung (g : SegReg) (v : Word) : (s.loadSeg g v).hung = s.hung := rfl
@[simp] theorem State.loadSeg_stuck (g : SegReg) (v : Word) : (s.loadSeg g v).stuck = s.stuck := rfl
@[simp] theorem State.loadSeg_waits (g : SegReg) (v : Word) : (s.loadSeg g v).waits = s.waits := rfl
@[simp] theorem State.loadSeg_pins (g : SegReg) (v : Word) : (s.loadSeg g v).pins = s.pins := rfl
@[simp] theorem State.loadSeg_mem (g : SegReg) (v : Word) : (s.loadSeg g v).mem = s.mem := rfl
@[simp] theorem State.loadSeg_devices (g : SegReg) (v : Word) : (s.loadSeg g v).devices = s.devices := rfl
@[simp] theorem State.loadSeg_params (g : SegReg) (v : Word) : (s.loadSeg g v).params = s.params := rfl
@[simp] theorem State.loadSeg_draws (g : SegReg) (v : Word) : (s.loadSeg g v).draws = s.draws := rfl
@[simp] theorem State.loadSeg_floats (g : SegReg) (v : Word) : (s.loadSeg g v).floats = s.floats := rfl
@[simp] theorem State.loadSeg_script (g : SegReg) (v : Word) : (s.loadSeg g v).script = s.script := rfl
@[simp] theorem State.loadSeg_midway (g : SegReg) (v : Word) : (s.loadSeg g v).midway = s.midway := rfl
@[simp] theorem State.loadSeg_flight (g : SegReg) (v : Word) : (s.loadSeg g v).flight = s.flight := rfl
@[simp] theorem State.loadSeg_log (g : SegReg) (v : Word) : (s.loadSeg g v).log = s.log := rfl

/-! ### `writePort` -/

@[simp] theorem State.writePort_regs (p : Nat) (v : Byte) : (s.writePort p v).regs = s.regs := rfl
@[simp] theorem State.writePort_segs (p : Nat) (v : Byte) : (s.writePort p v).segs = s.segs := rfl
@[simp] theorem State.writePort_ip (p : Nat) (v : Byte) : (s.writePort p v).ip = s.ip := rfl
@[simp] theorem State.writePort_flags (p : Nat) (v : Byte) : (s.writePort p v).flags = s.flags := rfl
@[simp] theorem State.writePort_queue (p : Nat) (v : Byte) : (s.writePort p v).queue = s.queue := rfl
@[simp] theorem State.writePort_halted (p : Nat) (v : Byte) : (s.writePort p v).halted = s.halted := rfl
@[simp] theorem State.writePort_locked (p : Nat) (v : Byte) : (s.writePort p v).locked = s.locked := rfl
@[simp] theorem State.writePort_armed (p : Nat) (v : Byte) : (s.writePort p v).armed = s.armed := rfl
@[simp] theorem State.writePort_inProgress (p : Nat) (v : Byte) : (s.writePort p v).inProgress = s.inProgress := rfl
@[simp] theorem State.writePort_nmiLatch (p : Nat) (v : Byte) : (s.writePort p v).nmiLatch = s.nmiLatch := rfl
@[simp] theorem State.writePort_shadow (p : Nat) (v : Byte) : (s.writePort p v).shadow = s.shadow := rfl
@[simp] theorem State.writePort_trap (p : Nat) (v : Byte) : (s.writePort p v).trap = s.trap := rfl
@[simp] theorem State.writePort_unstarted (p : Nat) (v : Byte) : (s.writePort p v).unstarted = s.unstarted := rfl
@[simp] theorem State.writePort_owner (p : Nat) (v : Byte) : (s.writePort p v).owner = s.owner := rfl
@[simp] theorem State.writePort_ch0 (p : Nat) (v : Byte) : (s.writePort p v).ch0 = s.ch0 := rfl
@[simp] theorem State.writePort_ch1 (p : Nat) (v : Byte) : (s.writePort p v).ch1 = s.ch1 := rfl
@[simp] theorem State.writePort_hung (p : Nat) (v : Byte) : (s.writePort p v).hung = s.hung := rfl
@[simp] theorem State.writePort_stuck (p : Nat) (v : Byte) : (s.writePort p v).stuck = s.stuck := rfl
@[simp] theorem State.writePort_waits (p : Nat) (v : Byte) : (s.writePort p v).waits = s.waits := rfl
@[simp] theorem State.writePort_pins (p : Nat) (v : Byte) : (s.writePort p v).pins = s.pins := rfl
@[simp] theorem State.writePort_mem (p : Nat) (v : Byte) : (s.writePort p v).mem = s.mem := rfl
@[simp] theorem State.writePort_devices (p : Nat) (v : Byte) :
    (s.writePort p v).devices = Device.give p v s.devices := rfl
@[simp] theorem State.writePort_params (p : Nat) (v : Byte) : (s.writePort p v).params = s.params := rfl
@[simp] theorem State.writePort_draws (p : Nat) (v : Byte) : (s.writePort p v).draws = s.draws := rfl
@[simp] theorem State.writePort_floats (p : Nat) (v : Byte) : (s.writePort p v).floats = s.floats := rfl
@[simp] theorem State.writePort_script (p : Nat) (v : Byte) : (s.writePort p v).script = s.script := rfl
@[simp] theorem State.writePort_midway (p : Nat) (v : Byte) : (s.writePort p v).midway = s.midway := rfl
@[simp] theorem State.writePort_flight (p : Nat) (v : Byte) : (s.writePort p v).flight = s.flight := rfl
@[simp] theorem State.writePort_log (p : Nat) (v : Byte) : (s.writePort p v).log = s.log := rfl

/-! ### `accept` -/

@[simp] theorem State.accept_regs (d : Due) : (s.accept d).regs = s.regs := rfl
@[simp] theorem State.accept_segs (d : Due) : (s.accept d).segs = s.segs := rfl
@[simp] theorem State.accept_ip (d : Due) : (s.accept d).ip = s.ip := rfl
@[simp] theorem State.accept_flags (d : Due) : (s.accept d).flags = s.flags := rfl
@[simp] theorem State.accept_queue (d : Due) : (s.accept d).queue = s.queue := rfl
@[simp] theorem State.accept_halted (d : Due) : (s.accept d).halted = false := rfl
@[simp] theorem State.accept_locked (d : Due) : (s.accept d).locked = s.locked := rfl
@[simp] theorem State.accept_armed (d : Due) : (s.accept d).armed = s.armed := rfl
@[simp] theorem State.accept_inProgress (d : Due) : (s.accept d).inProgress = s.inProgress := rfl
@[simp] theorem State.accept_nmiLatch (d : Due) : (s.accept d).nmiLatch = (s.nmiLatch && decide (d ≠ .nmi)) := rfl
@[simp] theorem State.accept_shadow (d : Due) : (s.accept d).shadow = s.shadow := rfl
@[simp] theorem State.accept_trap (d : Due) : (s.accept d).trap = s.trap := rfl
@[simp] theorem State.accept_unstarted (d : Due) : (s.accept d).unstarted = s.unstarted := rfl
@[simp] theorem State.accept_owner (d : Due) : (s.accept d).owner = s.owner := rfl
@[simp] theorem State.accept_ch0 (d : Due) : (s.accept d).ch0 = s.ch0 := rfl
@[simp] theorem State.accept_ch1 (d : Due) : (s.accept d).ch1 = s.ch1 := rfl
@[simp] theorem State.accept_hung (d : Due) : (s.accept d).hung = s.hung := rfl
@[simp] theorem State.accept_stuck (d : Due) : (s.accept d).stuck = s.stuck := rfl
@[simp] theorem State.accept_waits (d : Due) : (s.accept d).waits = s.waits := rfl
@[simp] theorem State.accept_pins (d : Due) : (s.accept d).pins = s.pins := rfl
@[simp] theorem State.accept_mem (d : Due) : (s.accept d).mem = s.mem := rfl
@[simp] theorem State.accept_devices (d : Due) : (s.accept d).devices = s.devices := rfl
@[simp] theorem State.accept_params (d : Due) : (s.accept d).params = s.params := rfl
@[simp] theorem State.accept_draws (d : Due) : (s.accept d).draws = s.draws := rfl
@[simp] theorem State.accept_floats (d : Due) : (s.accept d).floats = s.floats := rfl
@[simp] theorem State.accept_script (d : Due) : (s.accept d).script = s.script := rfl
@[simp] theorem State.accept_midway (d : Due) : (s.accept d).midway = s.midway := rfl
@[simp] theorem State.accept_flight (d : Due) : (s.accept d).flight = s.flight := rfl
@[simp] theorem State.accept_log (d : Due) : (s.accept d).log = s.log := rfl

/-! ### `disarm` -/

@[simp] theorem State.disarm_regs : (s.disarm).regs = s.regs := rfl
@[simp] theorem State.disarm_segs : (s.disarm).segs = s.segs := rfl
@[simp] theorem State.disarm_ip : (s.disarm).ip = s.ip := rfl
@[simp] theorem State.disarm_flags : (s.disarm).flags = s.flags := rfl
@[simp] theorem State.disarm_queue : (s.disarm).queue = s.queue := rfl
@[simp] theorem State.disarm_halted : (s.disarm).halted = s.halted := rfl
@[simp] theorem State.disarm_locked : (s.disarm).locked = false := rfl
@[simp] theorem State.disarm_armed :
    (s.disarm).armed = { s.armed with pending := false, seg := none, rep := none } := rfl
@[simp] theorem State.disarm_inProgress : (s.disarm).inProgress = s.inProgress := rfl
@[simp] theorem State.disarm_nmiLatch : (s.disarm).nmiLatch = s.nmiLatch := rfl
@[simp] theorem State.disarm_shadow : (s.disarm).shadow = s.shadow := rfl
@[simp] theorem State.disarm_trap : (s.disarm).trap = s.trap := rfl
@[simp] theorem State.disarm_unstarted : (s.disarm).unstarted = s.unstarted := rfl
@[simp] theorem State.disarm_owner : (s.disarm).owner = s.owner := rfl
@[simp] theorem State.disarm_ch0 : (s.disarm).ch0 = s.ch0 := rfl
@[simp] theorem State.disarm_ch1 : (s.disarm).ch1 = s.ch1 := rfl
@[simp] theorem State.disarm_hung : (s.disarm).hung = s.hung := rfl
@[simp] theorem State.disarm_stuck : (s.disarm).stuck = s.stuck := rfl
@[simp] theorem State.disarm_waits : (s.disarm).waits = s.waits := rfl
@[simp] theorem State.disarm_pins : (s.disarm).pins = s.pins := rfl
@[simp] theorem State.disarm_mem : (s.disarm).mem = s.mem := rfl
@[simp] theorem State.disarm_devices : (s.disarm).devices = s.devices := rfl
@[simp] theorem State.disarm_params : (s.disarm).params = s.params := rfl
@[simp] theorem State.disarm_draws : (s.disarm).draws = s.draws := rfl
@[simp] theorem State.disarm_floats : (s.disarm).floats = s.floats := rfl
@[simp] theorem State.disarm_script : (s.disarm).script = s.script := rfl
@[simp] theorem State.disarm_midway : (s.disarm).midway = s.midway := rfl
@[simp] theorem State.disarm_flight : (s.disarm).flight = s.flight := rfl
@[simp] theorem State.disarm_log : (s.disarm).log = s.log := rfl

/-! ### `start` -/

@[simp] theorem State.start_regs : (s.start).regs = s.regs := rfl
@[simp] theorem State.start_segs : (s.start).segs = s.segs := rfl
@[simp] theorem State.start_ip : (s.start).ip = s.ip := rfl
@[simp] theorem State.start_flags : (s.start).flags = s.flags := rfl
@[simp] theorem State.start_queue : (s.start).queue = s.queue := rfl
@[simp] theorem State.start_halted : (s.start).halted = s.halted := rfl
@[simp] theorem State.start_locked : (s.start).locked = s.locked := rfl
@[simp] theorem State.start_armed : (s.start).armed = { s.armed with pending := false } := rfl
@[simp] theorem State.start_inProgress : (s.start).inProgress = none := rfl
@[simp] theorem State.start_nmiLatch : (s.start).nmiLatch = s.nmiLatch := rfl
@[simp] theorem State.start_shadow : (s.start).shadow = .none := rfl
@[simp] theorem State.start_trap : (s.start).trap = if s.flags.tf then .stepped else .none := rfl
@[simp] theorem State.start_unstarted : (s.start).unstarted = false := rfl
@[simp] theorem State.start_owner : (s.start).owner = s.owner := rfl
@[simp] theorem State.start_ch0 : (s.start).ch0 = s.ch0 := rfl
@[simp] theorem State.start_ch1 : (s.start).ch1 = s.ch1 := rfl
@[simp] theorem State.start_hung : (s.start).hung = s.hung := rfl
@[simp] theorem State.start_stuck : (s.start).stuck = s.stuck := rfl
@[simp] theorem State.start_waits : (s.start).waits = s.waits := rfl
@[simp] theorem State.start_pins : (s.start).pins = s.pins := rfl
@[simp] theorem State.start_mem : (s.start).mem = s.mem := rfl
@[simp] theorem State.start_devices : (s.start).devices = s.devices := rfl
@[simp] theorem State.start_params : (s.start).params = s.params := rfl
@[simp] theorem State.start_draws : (s.start).draws = s.draws := rfl
@[simp] theorem State.start_floats : (s.start).floats = s.floats := rfl
@[simp] theorem State.start_script : (s.start).script = s.script := rfl
@[simp] theorem State.start_midway : (s.start).midway = s.midway := rfl
@[simp] theorem State.start_flight : (s.start).flight = s.flight := rfl
@[simp] theorem State.start_log : (s.start).log = s.log := rfl

/-! ### `markStart` -/

@[simp] theorem State.markStart_regs : (s.markStart).regs = s.regs := rfl
@[simp] theorem State.markStart_segs : (s.markStart).segs = s.segs := rfl
@[simp] theorem State.markStart_ip : (s.markStart).ip = s.ip := rfl
@[simp] theorem State.markStart_flags : (s.markStart).flags = s.flags := rfl
@[simp] theorem State.markStart_queue : (s.markStart).queue = s.queue := rfl
@[simp] theorem State.markStart_halted : (s.markStart).halted = s.halted := rfl
@[simp] theorem State.markStart_locked : (s.markStart).locked = s.locked := rfl
@[simp] theorem State.markStart_inProgress : (s.markStart).inProgress = s.inProgress := rfl
@[simp] theorem State.markStart_nmiLatch : (s.markStart).nmiLatch = s.nmiLatch := rfl
@[simp] theorem State.markStart_shadow : (s.markStart).shadow = s.shadow := rfl
@[simp] theorem State.markStart_trap : (s.markStart).trap = s.trap := rfl
@[simp] theorem State.markStart_unstarted : (s.markStart).unstarted = s.unstarted := rfl
@[simp] theorem State.markStart_owner : (s.markStart).owner = s.owner := rfl
@[simp] theorem State.markStart_ch0 : (s.markStart).ch0 = s.ch0 := rfl
@[simp] theorem State.markStart_ch1 : (s.markStart).ch1 = s.ch1 := rfl
@[simp] theorem State.markStart_hung : (s.markStart).hung = s.hung := rfl
@[simp] theorem State.markStart_stuck : (s.markStart).stuck = s.stuck := rfl
@[simp] theorem State.markStart_waits : (s.markStart).waits = s.waits := rfl
@[simp] theorem State.markStart_pins : (s.markStart).pins = s.pins := rfl
@[simp] theorem State.markStart_mem : (s.markStart).mem = s.mem := rfl
@[simp] theorem State.markStart_devices : (s.markStart).devices = s.devices := rfl
@[simp] theorem State.markStart_params : (s.markStart).params = s.params := rfl
@[simp] theorem State.markStart_draws : (s.markStart).draws = s.draws := rfl
@[simp] theorem State.markStart_floats : (s.markStart).floats = s.floats := rfl
@[simp] theorem State.markStart_script : (s.markStart).script = s.script := rfl
@[simp] theorem State.markStart_midway : (s.markStart).midway = s.midway := rfl
@[simp] theorem State.markStart_flight : (s.markStart).flight = s.flight := rfl
@[simp] theorem State.markStart_log : (s.markStart).log = s.log := rfl

/-! ### Free values -/

@[simp] theorem State.drawBit_fst : s.drawBit.1 = Config.freeBit s.draws := rfl
@[simp] theorem State.drawByte_fst : s.drawByte.1 = Config.freeByte s.draws := rfl
@[simp] theorem State.drawWord_fst : s.drawWord.1 = Config.freeWord s.draws := rfl
@[simp] theorem State.floatByte_fst : s.floatByte.1 = Config.openByte s.floats := rfl

/-! ### Registers -/

@[simp] theorem State.reg16_eq (r : Reg16) : s.reg16 r = s.regs.get16 r := rfl
@[simp] theorem State.reg8_eq (r : Reg8) : s.reg8 r = s.regs.get8 r := rfl
@[simp] theorem State.segReg_eq (g : SegReg) : s.segReg g = s.segs.get g := rfl

@[simp] theorem Regs.get16_put16_same (g : Regs) (r : Reg16) (v : Word) : (g.put16 r v).get16 r = v := by
  cases r <;> rfl

/-- Writing one register leaves the others alone. -/
theorem Regs.get16_put16_of_ne (g : Regs) {r q : Reg16} (v : Word) (h : q ≠ r) :
    (g.put16 r v).get16 q = g.get16 q := by
  cases r <;> cases q <;> first | rfl | exact absurd rfl h

/-- Reading a register after a write. -/
theorem Regs.get16_put16 (g : Regs) (r q : Reg16) (v : Word) :
    (g.put16 r v).get16 q = if q = r then v else g.get16 q := by
  cases r <;> cases q <;> rfl

@[simp] theorem Regs.put16_get16 (g : Regs) (r : Reg16) : g.put16 r (g.get16 r) = g := by cases r <;> rfl

@[simp] theorem Regs.put16_put16_same (g : Regs) (r : Reg16) (v w : Word) :
    (g.put16 r v).put16 r w = g.put16 r w := by cases r <;> rfl

@[simp] theorem Segs.get_put_same (g : Segs) (r : SegReg) (v : Word) : (g.put r v).get r = v := by cases r <;> rfl

/-- Reading a segment register after a write. -/
theorem Segs.get_put (g : Segs) (r q : SegReg) (v : Word) :
    (g.put r v).get q = if q = r then v else g.get q := by
  cases r <;> cases q <;> rfl

/-- The bits of a word made of two bytes. -/
theorem getLsbD_wordOf (lo hi : Byte) (i : Nat) :
    (wordOf lo hi).getLsbD i = if i < 8 then lo.getLsbD i else hi.getLsbD (i - 8) :=
  BitVec.getLsbD_append

@[simp] theorem lowByte_wordOf (lo hi : Byte) : lowByte (wordOf lo hi) = lo := by
  refine BitVec.eq_of_getLsbD_eq fun i h => ?_
  rw [lowByte, BitVec.getLsbD_extractLsb', Nat.zero_add, getLsbD_wordOf, if_pos h]
  simp [h]

@[simp] theorem highByte_wordOf (lo hi : Byte) : highByte (wordOf lo hi) = hi := by
  refine BitVec.eq_of_getLsbD_eq fun i h => ?_
  rw [highByte, BitVec.getLsbD_extractLsb', getLsbD_wordOf, if_neg (by omega), Nat.add_sub_cancel_left]
  simp [h]

@[simp] theorem wordOf_bytes (v : Word) : wordOf (lowByte v) (highByte v) = v := by
  refine BitVec.eq_of_getLsbD_eq fun i h => ?_
  rw [getLsbD_wordOf, lowByte, highByte, BitVec.getLsbD_extractLsb', BitVec.getLsbD_extractLsb']
  by_cases hi : i < 8
  · simp [hi]
  · rw [if_neg hi, show 8 + (i - 8) = i by omega]
    simp [show i - 8 < 8 by omega]

@[simp] theorem Regs.get8_put8_same (g : Regs) (r : Reg8) (v : Byte) : (g.put8 r v).get8 r = v := by
  cases r <;> simp [Regs.get8, Regs.put8, isHigh]

/-- Reading a byte register after a write: the other half keeps its value (R31). -/
theorem Regs.get8_put8 (g : Regs) (r q : Reg8) (v : Byte) :
    (g.put8 r v).get8 q = if q = r then v else g.get8 q := by
  cases r <;> cases q <;> simp [Regs.get8, Regs.put8, isHigh, wholeOf, Regs.get16_put16]

/-- Writing a byte register leaves every word register but its own alone (R31). -/
theorem Regs.get16_put8_of_ne (g : Regs) (r : Reg8) {q : Reg16} (v : Byte) (h : q ≠ wholeOf r) :
    (g.put8 r v).get16 q = g.get16 q := by
  simp [Regs.put8, Regs.get16_put16, h]

end Sys2Proof.Machine
end

