-- ==== Sys2Proof/Laws/Memory.lean ====
section
/-! SUPPORT. The laws of memory: a write is seen at its own address and nowhere else, every write keeps the canonical
form, and canonical memories that read alike are equal. -/

namespace Sys2Proof.Machine

theorem Memory.read_erase (a b : Nat) (m : List Host.Cell) :
    Memory.read (Memory.erase a m) b = if b = a then 0 else Memory.read m b := by
  induction m with
  | nil => simp [Memory.erase, Memory.read]
  | cons c m ih =>
    by_cases h : c.1 = a
    · by_cases hb : b = a
      · subst hb; simpa [Memory.erase, h] using ih
      · simp [Memory.erase, Memory.read, h, ih, hb, Ne.symm hb]
    · by_cases hb : b = c.1
      · simp [Memory.erase, Memory.read, h, hb]
      · simp [Memory.erase, Memory.read, h, ih, Ne.symm hb]

theorem Memory.ne_of_mem_erase (a : Nat) (m : List Host.Cell) : ∀ c ∈ Memory.erase a m, c.1 ≠ a := by
  induction m with
  | nil => simp [Memory.erase]
  | cons c m ih =>
    by_cases h : c.1 = a
    · simpa [Memory.erase, h] using ih
    · simpa [Memory.erase, h] using ih

/-- Inserting a cell whose address is not listed adds exactly that cell. -/
theorem Memory.read_insert (a b : Nat) (v : Byte) (m : List Host.Cell) (h : ∀ c ∈ m, c.1 ≠ a) :
    Memory.read (Memory.insert a v m) b = if b = a then v else Memory.read m b := by
  induction m with
  | nil => simp [Memory.insert, Memory.read, eq_comm]
  | cons c m ih =>
    have hc : c.1 ≠ a := h c (by simp)
    have ih := ih fun d hd => h d (by simp [hd])
    by_cases lt : a < c.1
    · by_cases hb : b = a
      · simp [Memory.insert, Memory.read, lt, hb]
      · simp [Memory.insert, Memory.read, lt, hb, Ne.symm hb]
    · by_cases hb : b = c.1
      · simp [Memory.insert, Memory.read, lt, hb, hc]
      · simp [Memory.insert, Memory.read, lt, ih, Ne.symm hb]

/-- A byte written reads back, and every other byte reads as before. -/
theorem Memory.read_write (m : List Host.Cell) (a b : Nat) (v : Byte) :
    Memory.read (Memory.write m a v) b = if b = a then v else Memory.read m b := by
  by_cases hv : v = 0
  · subst hv; simp [Memory.write, Memory.read_erase]
  · rw [Memory.write, if_neg hv, Memory.read_insert _ _ _ _ (Memory.ne_of_mem_erase _ _), Memory.read_erase]
    by_cases hb : b = a <;> simp [hb]

theorem Memory.wfFrom_mono {lo lo' : Nat} (m : List Host.Cell) (h : Memory.wfFrom lo m = true) (le : lo' ≤ lo) :
    Memory.wfFrom lo' m = true := by
  cases m with
  | nil => rfl
  | cons c m =>
    simp only [Memory.wfFrom, Bool.and_eq_true, decide_eq_true_eq] at h ⊢
    exact ⟨⟨⟨by omega, h.1.1.2⟩, h.1.2⟩, h.2⟩

theorem Memory.wfFrom_erase (a lo : Nat) (m : List Host.Cell) (h : Memory.wfFrom lo m = true) :
    Memory.wfFrom lo (Memory.erase a m) = true := by
  induction m generalizing lo with
  | nil => rfl
  | cons c m ih =>
    simp only [Memory.wfFrom, Bool.and_eq_true, decide_eq_true_eq] at h
    have tail := ih _ h.2
    by_cases hc : c.1 = a
    · rw [Memory.erase, if_pos hc]
      exact Memory.wfFrom_mono _ tail (by omega)
    · rw [Memory.erase, if_neg hc]
      simp only [Memory.wfFrom, Bool.and_eq_true, decide_eq_true_eq]
      exact ⟨h.1, tail⟩

theorem Memory.wfFrom_insert (a lo : Nat) (v : Byte) (m : List Host.Cell) (h : Memory.wfFrom lo m = true)
    (ne : ∀ c ∈ m, c.1 ≠ a) (hlo : lo ≤ a) (ha : a < 2 ^ 20) (hv : v ≠ 0) :
    Memory.wfFrom lo (Memory.insert a v m) = true := by
  induction m generalizing lo with
  | nil =>
    simp only [Memory.insert, Memory.wfFrom, Bool.and_eq_true, decide_eq_true_eq]
    exact ⟨⟨⟨hlo, ha⟩, hv⟩, trivial⟩
  | cons c m ih =>
    simp only [Memory.wfFrom, Bool.and_eq_true, decide_eq_true_eq] at h
    have hc : c.1 ≠ a := ne c (by simp)
    by_cases lt : a < c.1
    · simp only [Memory.insert, lt, if_true, Memory.wfFrom, Bool.and_eq_true, decide_eq_true_eq]
      exact ⟨⟨⟨hlo, ha⟩, hv⟩, ⟨⟨by omega, h.1.1.2⟩, h.1.2⟩, h.2⟩
    · simp only [Memory.insert, lt, if_false, Memory.wfFrom, Bool.and_eq_true, decide_eq_true_eq]
      exact ⟨h.1, ih _ h.2 (fun d hd => ne d (by simp [hd])) (by omega)⟩

/-- A write of any byte at any address keeps the canonical form. -/
theorem Memory.wf_write (m : List Host.Cell) (a : Addr) (v : Byte) (h : Memory.wf m = true) :
    Memory.wf (Memory.write m a.toNat v) = true := by
  have he := Memory.wfFrom_erase a.toNat 0 m h
  by_cases hv : v = 0
  · simpa [Memory.wf, Memory.write, hv] using he
  · rw [Memory.wf, Memory.write, if_neg hv]
    exact Memory.wfFrom_insert _ _ _ _ he (Memory.ne_of_mem_erase _ _) (Nat.zero_le _) a.isLt hv

/-- Below the least address of a canonical memory everything reads as zero. -/
theorem Memory.read_of_lt {lo : Nat} (m : List Host.Cell) (h : Memory.wfFrom lo m = true) {a : Nat} (ha : a < lo) :
    Memory.read m a = 0 := by
  induction m generalizing lo with
  | nil => rfl
  | cons c m ih =>
    simp only [Memory.wfFrom, Bool.and_eq_true, decide_eq_true_eq] at h
    simp [Memory.read, show c.1 ≠ a by omega, ih h.2 (by omega)]

theorem Memory.eq_of_read_from {lo : Nat} (m n : List Host.Cell) (hm : Memory.wfFrom lo m = true)
    (hn : Memory.wfFrom lo n = true) (h : ∀ a, Memory.read m a = Memory.read n a) : m = n := by
  induction m generalizing lo n with
  | nil =>
    cases n with
    | nil => rfl
    | cons d n =>
      simp only [Memory.wfFrom, Bool.and_eq_true, decide_eq_true_eq] at hn
      exact absurd (h d.1) (by simpa [Memory.read] using Ne.symm hn.1.2)
  | cons c m ih =>
    simp only [Memory.wfFrom, Bool.and_eq_true, decide_eq_true_eq] at hm
    cases n with
    | nil => exact absurd (h c.1) (by simpa [Memory.read] using hm.1.2)
    | cons d n =>
      simp only [Memory.wfFrom, Bool.and_eq_true, decide_eq_true_eq] at hn
      have key : c.1 = d.1 := by
        rcases Nat.lt_trichotomy c.1 d.1 with lt | eq | gt
        · have := h c.1
          simp [Memory.read, show d.1 ≠ c.1 by omega, Memory.read_of_lt n hn.2 (show c.1 < d.1 + 1 by omega)] at this
          exact absurd this hm.1.2
        · exact eq
        · have := h d.1
          simp [Memory.read, show c.1 ≠ d.1 by omega, Memory.read_of_lt m hm.2 (show d.1 < c.1 + 1 by omega)] at this
          exact absurd this.symm hn.1.2
      have val : c.2 = d.2 := by have := h c.1; simpa [Memory.read, key] using this
      have rest : m = n := by
        refine ih n hm.2 (key ▸ hn.2) fun a => ?_
        by_cases ha : a = c.1
        · rw [ha, Memory.read_of_lt m hm.2 (by omega), Memory.read_of_lt n hn.2 (by omega)]
        · have := h a
          simpa [Memory.read, Ne.symm ha, show d.1 ≠ a by omega] using this
      rw [show c = d from Prod.ext key val, rest]

/-- Two canonical memories that read alike everywhere are the same list. -/
theorem Memory.eq_of_read (m n : List Host.Cell) (hm : Memory.wf m = true) (hn : Memory.wf n = true)
    (h : ∀ a, Memory.read m a = Memory.read n a) : m = n :=
  Memory.eq_of_read_from m n hm hn h

end Sys2Proof.Machine
end

