-- ==== Sys2Proof/Laws/Ops.lean ====
section
/-! SUPPORT. What each shared operation can do, whatever happens beside it: a bus cycle touches nothing of the CPU's own
registers, and keeps what holds outside them. One lemma an operation says so (`keeps_…`), and one a field puts it to
use. -/

namespace Sys2Proof.Machine

/-- `t` has the CPU's own registers of `s`, and what holds outside them is kept. -/
structure Keeps (s t : State) : Prop where
  regs : t.regs = s.regs
  segs : t.segs = s.segs
  ip : t.ip = s.ip
  flags : t.flags = s.flags
  halted : t.halted = s.halted
  locked : t.locked = s.locked
  armed : t.armed = s.armed
  inProgress : t.inProgress = s.inProgress
  shadow : t.shadow = s.shadow
  trap : t.trap = s.trap
  unstarted : t.unstarted = s.unstarted
  params : t.params = s.params
  script : t.script = s.script
  midway : t.midway = s.midway
  world : s.worldFits → t.worldFits

theorem Keeps.refl (s : State) : Keeps s s := by constructor <;> first | rfl | exact id

theorem Keeps.trans {s t u : State} (h : Keeps s t) (k : Keeps t u) : Keeps s u where
  regs := k.regs.trans h.regs
  segs := k.segs.trans h.segs
  ip := k.ip.trans h.ip
  flags := k.flags.trans h.flags
  halted := k.halted.trans h.halted
  locked := k.locked.trans h.locked
  armed := k.armed.trans h.armed
  inProgress := k.inProgress.trans h.inProgress
  shadow := k.shadow.trans h.shadow
  trap := k.trap.trans h.trap
  unstarted := k.unstarted.trans h.unstarted
  params := k.params.trans h.params
  script := k.script.trans h.script
  midway := k.midway.trans h.midway
  world w := k.world (h.world w)

/-- The world fits where the fields it speaks of are the same. -/
theorem State.worldFits_congr {s t : State} (m : t.mem = s.mem) (q : t.queue = s.queue) (o : t.owner = s.owner)
    (c : t.ch0 = s.ch0) (d : t.ch1 = s.ch1) (p : t.pins.hold = s.pins.hold) (r : t.params = s.params)
    (h : t.hung = s.hung) (k : t.stuck = s.stuck) (w : s.worldFits) : t.worldFits := by
  unfold State.worldFits State.busFits State.stuckFits at *
  rw [m, q, o, c, d, p, r, h, k]
  exact w

/-! ### Single bytes -/

theorem keeps_record (s : State) (c : BusCycle) : Keeps s (s.record c) := by constructor <;> first | rfl | exact id

theorem keeps_stall (s : State) (pt : Point) : Keeps s (s.stall pt) := by constructor <;> first | rfl | exact id

theorem keeps_floatByte (s : State) : Keeps s s.floatByte.2 := by constructor <;> first | rfl | exact id

theorem keeps_drawBit (s : State) : Keeps s s.drawBit.2 := by constructor <;> first | rfl | exact id

theorem keeps_drawByte (s : State) : Keeps s s.drawByte.2 := by constructor <;> first | rfl | exact id

theorem keeps_drawWord (s : State) : Keeps s s.drawWord.2 := by constructor <;> first | rfl | exact id

theorem keeps_readByte (s : State) (a : Addr) : Keeps s (s.readByte a).2 := by
  unfold State.readByte
  split
  · exact keeps_floatByte s
  · exact Keeps.refl s

theorem keeps_writeByte (s : State) (a : Addr) (v : Byte) : Keeps s (s.writeByte a v) := by
  unfold State.writeByte
  split
  · constructor <;> first | rfl | exact fun w => ⟨Memory.wf_write _ a v w.1, w.2⟩
  · exact Keeps.refl s

theorem keeps_readPort (s : State) (p : Nat) : Keeps s (s.readPort p).2 := by
  unfold State.readPort
  split
  · constructor <;> first | rfl | exact id
  · exact keeps_floatByte s

theorem keeps_writePort (s : State) (p : Nat) (v : Byte) : Keeps s (s.writePort p v) := by
  constructor <;> first | rfl | exact id

theorem keeps_input (s : State) (sp : Space) (a : Addr) : Keeps s (s.input sp a).2 := by
  cases sp with
  | memory => exact keeps_readByte s a
  | io => exact keeps_readPort s _

theorem keeps_output (s : State) (sp : Space) (a : Addr) (v : Byte) : Keeps s (s.output sp a v) := by
  cases sp with
  | memory => exact keeps_writeByte s a v
  | io => exact keeps_writePort s _ v

/-! ### Events -/

theorem keeps_inputWord (s : State) (sp : Space) (lo hi : Addr) : Keeps s (s.inputWord sp lo hi).2 :=
  (keeps_input s sp lo).trans (keeps_input _ sp hi)

theorem keeps_outputWord (s : State) (sp : Space) (lo hi : Addr) (v : Word) : Keeps s (s.outputWord sp lo hi v) :=
  (keeps_output s sp lo _).trans (keeps_output _ sp hi _)

theorem keeps_setNmi (s : State) (v : Bool) : Keeps s (s.setNmi v) := by constructor <;> first | rfl | exact id

theorem keeps_setHold (s : State) (v : Bool) : Keeps s (s.setHold v) := by
  unfold State.setHold
  split
  case isFalse => exact Keeps.refl s
  case isTrue hm =>
    constructor <;> try rfl
    rintro ⟨m, q, ⟨b1, b2, b3, b4⟩, k⟩
    have c := b4 hm
    cases v
    · by_cases ho : s.owner = .hold
      · refine ⟨m, q, ⟨?_, ?_, ?_, ?_⟩, ?_⟩ <;> simp_all [State.stuckFits]
      · refine ⟨m, q, ⟨?_, ?_, ?_, ?_⟩, ?_⟩ <;> simp_all [State.stuckFits]
    · refine ⟨m, q, ⟨?_, ?_, ?_, ?_⟩, ?_⟩ <;> simp_all [State.stuckFits]

theorem keeps_request (s : State) (ch : Bool) : Keeps s (s.request ch) := by
  unfold State.request
  split
  case isFalse => exact Keeps.refl s
  case isTrue hm =>
    cases ch
    · constructor <;> try rfl
      rintro ⟨m, q, ⟨b1, b2, b3, b4⟩, k⟩
      cases hc : s.ch0 <;> refine ⟨m, q, ⟨?_, ?_, ?_, ?_⟩, k⟩ <;> simp_all
    · constructor <;> try rfl
      rintro ⟨m, q, ⟨b1, b2, b3, b4⟩, k⟩
      cases hc : s.ch1 <;> refine ⟨m, q, ⟨?_, ?_, ?_, ?_⟩, k⟩ <;> simp_all

/-- A CPU that can cede the bus has it, and no cycle of it hangs. -/
theorem State.canCede_iff (s : State) :
    s.canCede = true ↔ s.owner = .cpu ∧ s.stuck = none ∧ s.lockActive = false := by
  simp [State.canCede, and_assoc]

theorem keeps_grant (s : State) : Keeps s s.grant := by
  unfold State.grant
  split
  case isFalse => exact Keeps.refl s
  case isTrue hc =>
    rw [State.canCede_iff] at hc
    split
    case h_1 hm =>
      split
      · constructor <;> try rfl
        rintro ⟨m, q, ⟨b1, b2, b3, b4⟩, k⟩
        refine ⟨m, q, ⟨?_, ?_, ?_, ?_⟩, ?_⟩ <;> simp_all [State.stuckFits]
      · exact Keeps.refl s
    case h_2 hm =>
      split
      · constructor <;> try rfl
        rintro ⟨m, q, ⟨b1, b2, b3, b4⟩, k⟩
        refine ⟨m, q, ⟨?_, ?_, ?_, ?_⟩, ?_⟩ <;> simp_all [State.stuckFits, State.pulse]
      · split
        · constructor <;> try rfl
          rintro ⟨m, q, ⟨b1, b2, b3, b4⟩, k⟩
          refine ⟨m, q, ⟨?_, ?_, ?_, ?_⟩, ?_⟩ <;> simp_all [State.stuckFits, State.pulse]
        · exact Keeps.refl s

theorem keeps_release (s : State) (ch : Bool) : Keeps s (s.release ch) := by
  unfold State.release
  split
  · split
    case isTrue h =>
      constructor <;> try rfl
      rintro ⟨m, q, ⟨b1, b2, b3, b4⟩, k⟩
      refine ⟨m, q, ⟨?_, ?_, ?_, ?_⟩, ?_⟩ <;> simp_all [State.stuckFits]
    case isFalse => exact Keeps.refl s
  · split
    case isTrue h =>
      constructor <;> try rfl
      rintro ⟨m, q, ⟨b1, b2, b3, b4⟩, k⟩
      refine ⟨m, q, ⟨?_, ?_, ?_, ?_⟩, ?_⟩ <;> simp_all [State.stuckFits]
    case isFalse => exact Keeps.refl s

theorem keeps_master (s : State) (op : MasterOp) : Keeps s (MasterOp.run s op) := by
  cases op with
  | memRead a => exact keeps_readByte s a
  | memWrite a b => exact keeps_writeByte s a b
  | ioRead p => exact keeps_readPort s _
  | ioWrite p b => exact keeps_writePort s _ b
  | memReadWord r => exact keeps_inputWord s .memory _ _
  | memWriteWord r v => exact keeps_outputWord s .memory _ _ v
  | ioReadWord r => exact keeps_inputWord s .io _ _
  | ioWriteWord r v => exact keeps_outputWord s .io _ _ v

theorem keeps_masterCycle (s : State) (op : MasterOp) : Keeps s (s.masterCycle op) := by
  unfold State.masterCycle
  split
  · exact Keeps.refl s
  · exact keeps_master s op

/-! ### Cycles -/

/-- A CPU that can run no cycle either has not the bus or gets no READY. -/
theorem State.barred_iff (s : State) : s.barred = true ↔ s.hung = true ∨ s.owner ≠ .cpu := by
  simp [State.barred]

theorem keeps_hang (s : State) (c : BusCycle) (h : s.barred = true) : Keeps s (s.hang c) := by
  unfold State.hang
  split
  case isTrue k =>
    constructor <;> try rfl
    rintro ⟨m, q, b, f⟩
    rw [State.barred_iff] at h
    exact ⟨m, q, b, fun _ => ⟨h.resolve_right (by simp [k.1]), k.1⟩⟩
  case isFalse => exact Keeps.refl s

theorem keeps_runCycle (s : State) (k : BusKind) (a : Option Addr) (g : Option SegReg) (f : State → Lanes × State)
    (h : ∀ t, Keeps t (f t).2) : Keeps s (s.runCycle k a g f).2 := by
  unfold State.runCycle
  simp only
  split
  · exact keeps_hang s _ ‹_›
  · exact (h s).trans (keeps_record _ _)

theorem keeps_fetchMove (a : Addr) (s : State) : Keeps s (State.fetchMove a s).2 := by
  unfold State.fetchMove
  simp only
  split
  · exact keeps_readByte s a
  · exact (keeps_readByte s a).trans (keeps_readByte _ _)

/-- A cycle brings no more than its data, which a CPU without the bus does not get. -/
theorem State.runCycle_fst (s : State) (k : BusKind) (a : Option Addr) (g : Option SegReg) (f : State → Lanes × State) :
    (s.runCycle k a g f).1 = if s.barred then .none else (f s).1 := by
  unfold State.runCycle
  simp only
  split <;> rfl

theorem State.runCycle_queue (s : State) (k : BusKind) (a : Option Addr) (g : Option SegReg)
    (f : State → Lanes × State) (h : (f s).2.queue = s.queue) : (s.runCycle k a g f).2.queue = s.queue := by
  unfold State.runCycle
  simp only
  split
  · unfold State.hang; split <;> rfl
  · exact h

@[simp] theorem State.readByte_queue (s : State) (a : Addr) : (s.readByte a).2.queue = s.queue := by
  unfold State.readByte; split <;> rfl

theorem State.fetchMove_queue (s : State) (a : Addr) : (State.fetchMove a s).2.queue = s.queue := by
  unfold State.fetchMove State.inputWord State.input; simp only; split <;> simp

theorem State.fetchMove_length (s : State) (a : Addr) : (State.fetchMove a s).1.bytes.length ≤ 2 := by
  unfold State.fetchMove Lanes.byte Lanes.word Lanes.bytes
  simp only
  split <;> simp

theorem keeps_biuFetch (s : State) : Keeps s s.biuFetch := by
  unfold State.biuFetch
  split
  · exact Keeps.refl s
  case isFalse h =>
    have k := keeps_runCycle s .fetch (some (s.addr .cs (s.ip + BitVec.ofNat 16 s.queue.length))) (some .cs)
      (State.fetchMove (s.addr .cs (s.ip + BitVec.ofNat 16 s.queue.length))) (keeps_fetchMove _)
    have q := State.runCycle_queue s .fetch (some (s.addr .cs (s.ip + BitVec.ofNat 16 s.queue.length))) (some .cs)
      (State.fetchMove (s.addr .cs (s.ip + BitVec.ofNat 16 s.queue.length))) (s.fetchMove_queue _)
    have l : ((s.runCycle .fetch (some (s.addr .cs (s.ip + BitVec.ofNat 16 s.queue.length))) (some .cs)
        (State.fetchMove (s.addr .cs (s.ip + BitVec.ofNat 16 s.queue.length)))).1).bytes.length ≤ 2 := by
      rw [State.runCycle_fst]
      split
      · simp [Lanes.none, Lanes.bytes]
      · exact s.fetchMove_length _
    refine ⟨k.regs, k.segs, k.ip, k.flags, k.halted, k.locked, k.armed, k.inProgress, k.shadow, k.trap, k.unstarted,
      k.params, k.script, k.midway, fun w => ?_⟩
    have v := k.world w
    refine ⟨v.1, ?_, v.2.2⟩
    simp only [Bool.or_eq_true, decide_eq_true_eq, not_or, Nat.not_lt] at h
    simp only [List.length_append, q]
    omega

theorem keeps_occur (s : State) (e : Event) : Keeps s (s.occur e) := by
  cases e with
  | nmi l => exact keeps_setNmi s l
  | intr l t => constructor <;> first | rfl | exact id
  | test l => constructor <;> first | rfl | exact id
  | hold l => exact keeps_setHold s l
  | request c => exact keeps_request s c
  | grant => exact keeps_grant s
  | release c => exact keeps_release s c
  | master op => exact keeps_masterCycle s op
  | fetch => exact keeps_biuFetch s
  | wait n => constructor <;> first | rfl | exact id
  | neverReady =>
    constructor <;> try rfl
    rintro ⟨m, q, b, f⟩
    exact ⟨m, q, b, fun h => ⟨rfl, (f h).2⟩⟩
  | resetDrv => constructor <;> first | rfl | exact id
  | reset l h => constructor <;> first | rfl | exact id

theorem keeps_occurAt (s : State) (pt : Point) (e : Event) : Keeps s (s.occurAt pt e) := by
  unfold State.occurAt
  split
  · exact keeps_occur s e
  · exact Keeps.refl s

theorem keeps_occurAll (pt : Point) (es : List Event) (s : State) : Keeps s (State.occurAll pt es s) := by
  induction es generalizing s with
  | nil => exact Keeps.refl s
  | cons e es ih =>
    unfold State.occurAll
    exact (keeps_occurAt s pt e).trans (ih _)

theorem keeps_pass (s : State) (pt : Point) : Keeps s (s.pass pt) := by
  unfold State.pass
  split
  · exact Keeps.refl s
  · split
    · exact Keeps.refl s
    · refine Keeps.trans ?_ (keeps_occurAll pt _ _)
      constructor <;> first | rfl | exact id

theorem keeps_landHalves (s : State) (c : BusCycle) (l h : Bool) : Keeps s (s.landHalves c l h) := by
  unfold State.landHalves
  split
  · simp only
    have put : ∀ (t : State) (sp : Space) (a : Addr) (v : Option Byte) (d : Bool),
        Keeps t (match v with | some b => if d then t.output sp a b else t | none => t) := by
      intro t sp a v d
      split
      · split
        · exact keeps_output _ _ _ _
        · exact Keeps.refl t
      · exact Keeps.refl t
    exact (put _ _ _ _ _).trans (put _ _ _ _ _)
  · exact Keeps.refl s

theorem keeps_cutCycle (s : State) (l h : Bool) (c : Option BusCycle) : Keeps s (s.cutCycle l h c) := by
  unfold State.cutCycle
  split
  · exact keeps_landHalves _ _ _ _
  · split
    · split
      · exact keeps_landHalves _ _ _ _
      · exact Keeps.refl s
    · exact Keeps.refl s

/-- A bus cycle of a task, whatever happens before it, keeps the CPU's registers, if the moving of its data does. -/
theorem keeps_cycle (s : State) (pt : Point) (k : BusKind) (a : Option Addr) (g : Option SegReg)
    (f : State → Lanes × State) (h : ∀ t, Keeps t (f t).2) : Keeps s (s.cycle pt k a g f).2 := by
  unfold State.cycle
  split
  · constructor <;> first | rfl | exact id
  · simp only
    split
    · exact keeps_pass s pt
    · split
      · exact (keeps_pass s pt).trans ((keeps_cutCycle _ _ _ _).trans (keeps_stall _ _))
      · split
        · exact (keeps_pass s pt).trans ((keeps_runCycle _ k a g f h).trans (keeps_stall _ _))
        · exact (keeps_pass s pt).trans (keeps_runCycle _ k a g f h)

/-! ### Accesses -/

theorem keeps_readOne (s : State) (pt : Point) (sp : Space) (a : Addr) (g : Option SegReg) :
    Keeps s (s.readOne pt sp a g).2 :=
  keeps_cycle s pt _ _ g _ fun t => keeps_input t sp a

theorem keeps_writeOne (s : State) (pt : Point) (sp : Space) (a : Addr) (v : Byte) (g : Option SegReg) :
    Keeps s (s.writeOne pt sp a v g) :=
  keeps_cycle s pt _ _ g _ fun t => keeps_output t sp a v

theorem keeps_readPair (s : State) (sp : Space) (lo hi : Addr) (g : Option SegReg) :
    Keeps s (s.readPair sp lo hi g).2 := by
  unfold State.readPair
  split
  · exact (keeps_readOne s _ sp lo g).trans (keeps_readOne _ _ sp hi g)
  · exact keeps_cycle s _ _ _ g _ fun t => keeps_inputWord t sp lo hi

theorem keeps_writePair (s : State) (sp : Space) (lo hi : Addr) (v : Word) (g : Option SegReg) :
    Keeps s (s.writePair sp lo hi v g) := by
  unfold State.writePair
  split
  · exact (keeps_writeOne s _ sp lo _ g).trans (keeps_writeOne _ _ sp hi _ g)
  · exact keeps_cycle s _ _ _ g _ fun t => keeps_outputWord t sp lo hi v

theorem keeps_readMem8 (s : State) (g : SegReg) (off : Word) : Keeps s (s.readMem8 g off).2 := keeps_readOne _ _ _ _ _

theorem keeps_writeMem8 (s : State) (g : SegReg) (off : Word) (v : Byte) : Keeps s (s.writeMem8 g off v) :=
  keeps_writeOne _ _ _ _ _ _

theorem keeps_readMem16 (s : State) (g : SegReg) (off : Word) : Keeps s (s.readMem16 g off).2 :=
  keeps_readPair _ _ _ _ _

theorem keeps_writeMem16 (s : State) (g : SegReg) (off : Word) (v : Word) : Keeps s (s.writeMem16 g off v) :=
  keeps_writePair _ _ _ _ _ _

theorem keeps_ioRead8 (s : State) (p : Word) : Keeps s (s.ioRead8 p).2 := keeps_readOne _ _ _ _ _

theorem keeps_ioWrite8 (s : State) (p : Word) (v : Byte) : Keeps s (s.ioWrite8 p v) := keeps_writeOne _ _ _ _ _ _

theorem keeps_ioRead16 (s : State) (p : Word) : Keeps s (s.ioRead16 p).2 := keeps_readPair _ _ _ _ _

theorem keeps_ioWrite16 (s : State) (p : Word) (v : Word) : Keeps s (s.ioWrite16 p v) := keeps_writePair _ _ _ _ _ _

theorem keeps_acknowledge (s : State) : Keeps s s.acknowledge.2 :=
  (keeps_cycle s .between .inta none none _ fun t => Keeps.refl t).trans
    (keeps_cycle _ .insideAck .inta none none _ fun t => Keeps.refl t)

theorem keeps_haltCycle (s : State) : Keeps s s.haltCycle :=
  keeps_cycle s .between .halt none none _ fun t => Keeps.refl t

theorem keeps_emptyQueue (s : State) : Keeps s s.emptyQueue := by
  constructor <;> first | rfl | exact fun w => ⟨w.1, Nat.zero_le _, w.2.2⟩

theorem keeps_flushQueue (s : State) : Keeps s s.flushQueue := by
  unfold State.flushQueue
  simp only
  split
  · exact keeps_pass s _
  · exact (keeps_pass s _).trans (keeps_emptyQueue _)

theorem keeps_readVector (s : State) (t : Byte) : Keeps s (s.readVector t).2 :=
  (keeps_readPair _ _ _ _ _).trans (keeps_readPair _ _ _ _ _)

theorem keeps_get8 (s : State) (p : Place Reg8) : Keeps s (s.get8 p).2 := by
  cases p with
  | reg r => exact Keeps.refl s
  | mem g off => exact keeps_readMem8 s g off

theorem keeps_get16 (s : State) (p : Place Reg16) : Keeps s (s.get16 p).2 := by
  cases p with
  | reg r => exact Keeps.refl s
  | mem g off => exact keeps_readMem16 s g off

theorem keeps_readFar (s : State) (m : MemOp) : Keeps s (s.readFar m).2 :=
  (keeps_readMem16 _ _ _).trans (keeps_readMem16 _ _ _)

theorem keeps_writesBack {ρ : Type} (s : State) (p : Place ρ) : Keeps s (s.writesBack p).2 := by
  cases p with
  | reg r => exact Keeps.refl s
  | mem g off => exact keeps_drawBit s

theorem keeps_demand (s : State) : Keeps s s.demand := by
  unfold State.demand
  simp only
  split
  · exact (keeps_pass s _).trans ((keeps_cutCycle _ _ _ _).trans (keeps_stall _ _))
  · have k : Keeps s (if (s.pass .between).queue.isEmpty then (s.pass .between).biuFetch else s.pass .between) := by
      split
      · exact (keeps_pass s _).trans (keeps_biuFetch _)
      · exact keeps_pass s _
    revert k
    generalize (if (s.pass .between).queue.isEmpty then (s.pass .between).biuFetch else s.pass .between) = u
    intro k
    split
    · exact k.trans (keeps_stall _ _)
    · exact k

/-! ### One field, one lemma -/

section

variable (s : State)

@[simp] theorem State.readByte_regs (a : Addr) : (s.readByte a).2.regs = s.regs := (keeps_readByte s a).regs
@[simp] theorem State.readByte_segs (a : Addr) : (s.readByte a).2.segs = s.segs := (keeps_readByte s a).segs
@[simp] theorem State.readByte_ip (a : Addr) : (s.readByte a).2.ip = s.ip := (keeps_readByte s a).ip
@[simp] theorem State.readByte_flags (a : Addr) : (s.readByte a).2.flags = s.flags := (keeps_readByte s a).flags
@[simp] theorem State.readByte_halted (a : Addr) : (s.readByte a).2.halted = s.halted := (keeps_readByte s a).halted
@[simp] theorem State.readByte_locked (a : Addr) : (s.readByte a).2.locked = s.locked := (keeps_readByte s a).locked
@[simp] theorem State.readByte_armed (a : Addr) : (s.readByte a).2.armed = s.armed := (keeps_readByte s a).armed
@[simp] theorem State.readByte_inProgress (a : Addr) : (s.readByte a).2.inProgress = s.inProgress :=
  (keeps_readByte s a).inProgress
@[simp] theorem State.readByte_shadow (a : Addr) : (s.readByte a).2.shadow = s.shadow := (keeps_readByte s a).shadow
@[simp] theorem State.readByte_trap (a : Addr) : (s.readByte a).2.trap = s.trap := (keeps_readByte s a).trap
@[simp] theorem State.readByte_params (a : Addr) : (s.readByte a).2.params = s.params := (keeps_readByte s a).params
@[simp] theorem State.readByte_kindAt (a : Addr) (x : Addr) : (s.readByte a).2.kindAt x = s.kindAt x := by
  simp [State.kindAt]
@[simp] theorem State.readByte_addr (a : Addr) (r : SegReg) (x : Word) : (s.readByte a).2.addr r x = s.addr r x := by
  simp [State.addr]

@[simp] theorem State.writeByte_regs (a : Addr) (v : Byte) : (s.writeByte a v).regs = s.regs :=
  (keeps_writeByte s a v).regs
@[simp] theorem State.writeByte_segs (a : Addr) (v : Byte) : (s.writeByte a v).segs = s.segs :=
  (keeps_writeByte s a v).segs
@[simp] theorem State.writeByte_ip (a : Addr) (v : Byte) : (s.writeByte a v).ip = s.ip := (keeps_writeByte s a v).ip
@[simp] theorem State.writeByte_flags (a : Addr) (v : Byte) : (s.writeByte a v).flags = s.flags :=
  (keeps_writeByte s a v).flags
@[simp] theorem State.writeByte_halted (a : Addr) (v : Byte) : (s.writeByte a v).halted = s.halted :=
  (keeps_writeByte s a v).halted
@[simp] theorem State.writeByte_locked (a : Addr) (v : Byte) : (s.writeByte a v).locked = s.locked :=
  (keeps_writeByte s a v).locked
@[simp] theorem State.writeByte_armed (a : Addr) (v : Byte) : (s.writeByte a v).armed = s.armed :=
  (keeps_writeByte s a v).armed
@[simp] theorem State.writeByte_inProgress (a : Addr) (v : Byte) : (s.writeByte a v).inProgress = s.inProgress :=
  (keeps_writeByte s a v).inProgress
@[simp] theorem State.writeByte_shadow (a : Addr) (v : Byte) : (s.writeByte a v).shadow = s.shadow :=
  (keeps_writeByte s a v).shadow
@[simp] theorem State.writeByte_trap (a : Addr) (v : Byte) : (s.writeByte a v).trap = s.trap :=
  (keeps_writeByte s a v).trap
@[simp] theorem State.writeByte_params (a : Addr) (v : Byte) : (s.writeByte a v).params = s.params :=
  (keeps_writeByte s a v).params
@[simp] theorem State.writeByte_kindAt (a : Addr) (v : Byte) (x : Addr) : (s.writeByte a v).kindAt x = s.kindAt x := by
  simp [State.kindAt]
@[simp] theorem State.writeByte_addr (a : Addr) (v : Byte) (r : SegReg) (x : Word) : (s.writeByte a v).addr r x = s.addr r x := by
  simp [State.addr]

@[simp] theorem State.readPort_regs (p : Nat) : (s.readPort p).2.regs = s.regs := (keeps_readPort s p).regs
@[simp] theorem State.readPort_segs (p : Nat) : (s.readPort p).2.segs = s.segs := (keeps_readPort s p).segs
@[simp] theorem State.readPort_ip (p : Nat) : (s.readPort p).2.ip = s.ip := (keeps_readPort s p).ip
@[simp] theorem State.readPort_flags (p : Nat) : (s.readPort p).2.flags = s.flags := (keeps_readPort s p).flags
@[simp] theorem State.readPort_halted (p : Nat) : (s.readPort p).2.halted = s.halted := (keeps_readPort s p).halted
@[simp] theorem State.readPort_locked (p : Nat) : (s.readPort p).2.locked = s.locked := (keeps_readPort s p).locked
@[simp] theorem State.readPort_armed (p : Nat) : (s.readPort p).2.armed = s.armed := (keeps_readPort s p).armed
@[simp] theorem State.readPort_inProgress (p : Nat) : (s.readPort p).2.inProgress = s.inProgress :=
  (keeps_readPort s p).inProgress
@[simp] theorem State.readPort_shadow (p : Nat) : (s.readPort p).2.shadow = s.shadow := (keeps_readPort s p).shadow
@[simp] theorem State.readPort_trap (p : Nat) : (s.readPort p).2.trap = s.trap := (keeps_readPort s p).trap
@[simp] theorem State.readPort_params (p : Nat) : (s.readPort p).2.params = s.params := (keeps_readPort s p).params
@[simp] theorem State.readPort_kindAt (p : Nat) (x : Addr) : (s.readPort p).2.kindAt x = s.kindAt x := by
  simp [State.kindAt]
@[simp] theorem State.readPort_addr (p : Nat) (r : SegReg) (x : Word) : (s.readPort p).2.addr r x = s.addr r x := by
  simp [State.addr]

@[simp] theorem State.readMem8_regs (g : SegReg) (off : Word) : (s.readMem8 g off).2.regs = s.regs :=
  (keeps_readMem8 s g off).regs
@[simp] theorem State.readMem8_segs (g : SegReg) (off : Word) : (s.readMem8 g off).2.segs = s.segs :=
  (keeps_readMem8 s g off).segs
@[simp] theorem State.readMem8_ip (g : SegReg) (off : Word) : (s.readMem8 g off).2.ip = s.ip :=
  (keeps_readMem8 s g off).ip
@[simp] theorem State.readMem8_flags (g : SegReg) (off : Word) : (s.readMem8 g off).2.flags = s.flags :=
  (keeps_readMem8 s g off).flags
@[simp] theorem State.readMem8_halted (g : SegReg) (off : Word) : (s.readMem8 g off).2.halted = s.halted :=
  (keeps_readMem8 s g off).halted
@[simp] theorem State.readMem8_locked (g : SegReg) (off : Word) : (s.readMem8 g off).2.locked = s.locked :=
  (keeps_readMem8 s g off).locked
@[simp] theorem State.readMem8_armed (g : SegReg) (off : Word) : (s.readMem8 g off).2.armed = s.armed :=
  (keeps_readMem8 s g off).armed
@[simp] theorem State.readMem8_inProgress (g : SegReg) (off : Word) : (s.readMem8 g off).2.inProgress = s.inProgress :=
  (keeps_readMem8 s g off).inProgress
@[simp] theorem State.readMem8_shadow (g : SegReg) (off : Word) : (s.readMem8 g off).2.shadow = s.shadow :=
  (keeps_readMem8 s g off).shadow
@[simp] theorem State.readMem8_trap (g : SegReg) (off : Word) : (s.readMem8 g off).2.trap = s.trap :=
  (keeps_readMem8 s g off).trap
@[simp] theorem State.readMem8_params (g : SegReg) (off : Word) : (s.readMem8 g off).2.params = s.params :=
  (keeps_readMem8 s g off).params
@[simp] theorem State.readMem8_kindAt (g : SegReg) (off : Word) (x : Addr) : (s.readMem8 g off).2.kindAt x = s.kindAt x := by
  simp [State.kindAt]
@[simp] theorem State.readMem8_addr (g : SegReg) (off : Word) (r : SegReg) (x : Word) : (s.readMem8 g off).2.addr r x = s.addr r x := by
  simp [State.addr]

@[simp] theorem State.writeMem8_regs (g : SegReg) (off : Word) (v : Byte) : (s.writeMem8 g off v).regs = s.regs :=
  (keeps_writeMem8 s g off v).regs
@[simp] theorem State.writeMem8_segs (g : SegReg) (off : Word) (v : Byte) : (s.writeMem8 g off v).segs = s.segs :=
  (keeps_writeMem8 s g off v).segs
@[simp] theorem State.writeMem8_ip (g : SegReg) (off : Word) (v : Byte) : (s.writeMem8 g off v).ip = s.ip :=
  (keeps_writeMem8 s g off v).ip
@[simp] theorem State.writeMem8_flags (g : SegReg) (off : Word) (v : Byte) : (s.writeMem8 g off v).flags = s.flags :=
  (keeps_writeMem8 s g off v).flags
@[simp] theorem State.writeMem8_halted (g : SegReg) (off : Word) (v : Byte) : (s.writeMem8 g off v).halted = s.halted :=
  (keeps_writeMem8 s g off v).halted
@[simp] theorem State.writeMem8_locked (g : SegReg) (off : Word) (v : Byte) : (s.writeMem8 g off v).locked = s.locked :=
  (keeps_writeMem8 s g off v).locked
@[simp] theorem State.writeMem8_armed (g : SegReg) (off : Word) (v : Byte) : (s.writeMem8 g off v).armed = s.armed :=
  (keeps_writeMem8 s g off v).armed
@[simp] theorem State.writeMem8_inProgress (g : SegReg) (off : Word) (v : Byte) : (s.writeMem8 g off v).inProgress = s.inProgress :=
  (keeps_writeMem8 s g off v).inProgress
@[simp] theorem State.writeMem8_shadow (g : SegReg) (off : Word) (v : Byte) : (s.writeMem8 g off v).shadow = s.shadow :=
  (keeps_writeMem8 s g off v).shadow
@[simp] theorem State.writeMem8_trap (g : SegReg) (off : Word) (v : Byte) : (s.writeMem8 g off v).trap = s.trap :=
  (keeps_writeMem8 s g off v).trap
@[simp] theorem State.writeMem8_params (g : SegReg) (off : Word) (v : Byte) : (s.writeMem8 g off v).params = s.params :=
  (keeps_writeMem8 s g off v).params
@[simp] theorem State.writeMem8_kindAt (g : SegReg) (off : Word) (v : Byte) (x : Addr) : (s.writeMem8 g off v).kindAt x = s.kindAt x := by
  simp [State.kindAt]
@[simp] theorem State.writeMem8_addr (g : SegReg) (off : Word) (v : Byte) (r : SegReg) (x : Word) : (s.writeMem8 g off v).addr r x = s.addr r x := by
  simp [State.addr]

@[simp] theorem State.readMem16_regs (g : SegReg) (off : Word) : (s.readMem16 g off).2.regs = s.regs :=
  (keeps_readMem16 s g off).regs
@[simp] theorem State.readMem16_segs (g : SegReg) (off : Word) : (s.readMem16 g off).2.segs = s.segs :=
  (keeps_readMem16 s g off).segs
@[simp] theorem State.readMem16_ip (g : SegReg) (off : Word) : (s.readMem16 g off).2.ip = s.ip :=
  (keeps_readMem16 s g off).ip
@[simp] theorem State.readMem16_flags (g : SegReg) (off : Word) : (s.readMem16 g off).2.flags = s.flags :=
  (keeps_readMem16 s g off).flags
@[simp] theorem State.readMem16_halted (g : SegReg) (off : Word) : (s.readMem16 g off).2.halted = s.halted :=
  (keeps_readMem16 s g off).halted
@[simp] theorem State.readMem16_locked (g : SegReg) (off : Word) : (s.readMem16 g off).2.locked = s.locked :=
  (keeps_readMem16 s g off).locked
@[simp] theorem State.readMem16_armed (g : SegReg) (off : Word) : (s.readMem16 g off).2.armed = s.armed :=
  (keeps_readMem16 s g off).armed
@[simp] theorem State.readMem16_inProgress (g : SegReg) (off : Word) : (s.readMem16 g off).2.inProgress = s.inProgress :=
  (keeps_readMem16 s g off).inProgress
@[simp] theorem State.readMem16_shadow (g : SegReg) (off : Word) : (s.readMem16 g off).2.shadow = s.shadow :=
  (keeps_readMem16 s g off).shadow
@[simp] theorem State.readMem16_trap (g : SegReg) (off : Word) : (s.readMem16 g off).2.trap = s.trap :=
  (keeps_readMem16 s g off).trap
@[simp] theorem State.readMem16_params (g : SegReg) (off : Word) : (s.readMem16 g off).2.params = s.params :=
  (keeps_readMem16 s g off).params
@[simp] theorem State.readMem16_kindAt (g : SegReg) (off : Word) (x : Addr) : (s.readMem16 g off).2.kindAt x = s.kindAt x := by
  simp [State.kindAt]
@[simp] theorem State.readMem16_addr (g : SegReg) (off : Word) (r : SegReg) (x : Word) : (s.readMem16 g off).2.addr r x = s.addr r x := by
  simp [State.addr]

@[simp] theorem State.writeMem16_regs (g : SegReg) (off v : Word) : (s.writeMem16 g off v).regs = s.regs :=
  (keeps_writeMem16 s g off v).regs
@[simp] theorem State.writeMem16_segs (g : SegReg) (off v : Word) : (s.writeMem16 g off v).segs = s.segs :=
  (keeps_writeMem16 s g off v).segs
@[simp] theorem State.writeMem16_ip (g : SegReg) (off v : Word) : (s.writeMem16 g off v).ip = s.ip :=
  (keeps_writeMem16 s g off v).ip
@[simp] theorem State.writeMem16_flags (g : SegReg) (off v : Word) : (s.writeMem16 g off v).flags = s.flags :=
  (keeps_writeMem16 s g off v).flags
@[simp] theorem State.writeMem16_halted (g : SegReg) (off v : Word) : (s.writeMem16 g off v).halted = s.halted :=
  (keeps_writeMem16 s g off v).halted
@[simp] theorem State.writeMem16_locked (g : SegReg) (off v : Word) : (s.writeMem16 g off v).locked = s.locked :=
  (keeps_writeMem16 s g off v).locked
@[simp] theorem State.writeMem16_armed (g : SegReg) (off v : Word) : (s.writeMem16 g off v).armed = s.armed :=
  (keeps_writeMem16 s g off v).armed
@[simp] theorem State.writeMem16_inProgress (g : SegReg) (off v : Word) : (s.writeMem16 g off v).inProgress = s.inProgress :=
  (keeps_writeMem16 s g off v).inProgress
@[simp] theorem State.writeMem16_shadow (g : SegReg) (off v : Word) : (s.writeMem16 g off v).shadow = s.shadow :=
  (keeps_writeMem16 s g off v).shadow
@[simp] theorem State.writeMem16_trap (g : SegReg) (off v : Word) : (s.writeMem16 g off v).trap = s.trap :=
  (keeps_writeMem16 s g off v).trap
@[simp] theorem State.writeMem16_params (g : SegReg) (off v : Word) : (s.writeMem16 g off v).params = s.params :=
  (keeps_writeMem16 s g off v).params
@[simp] theorem State.writeMem16_kindAt (g : SegReg) (off v : Word) (x : Addr) : (s.writeMem16 g off v).kindAt x = s.kindAt x := by
  simp [State.kindAt]
@[simp] theorem State.writeMem16_addr (g : SegReg) (off v : Word) (r : SegReg) (x : Word) : (s.writeMem16 g off v).addr r x = s.addr r x := by
  simp [State.addr]

@[simp] theorem State.ioRead8_regs (p : Word) : (s.ioRead8 p).2.regs = s.regs := (keeps_ioRead8 s p).regs
@[simp] theorem State.ioRead8_segs (p : Word) : (s.ioRead8 p).2.segs = s.segs := (keeps_ioRead8 s p).segs
@[simp] theorem State.ioRead8_ip (p : Word) : (s.ioRead8 p).2.ip = s.ip := (keeps_ioRead8 s p).ip
@[simp] theorem State.ioRead8_flags (p : Word) : (s.ioRead8 p).2.flags = s.flags := (keeps_ioRead8 s p).flags
@[simp] theorem State.ioRead8_halted (p : Word) : (s.ioRead8 p).2.halted = s.halted := (keeps_ioRead8 s p).halted
@[simp] theorem State.ioRead8_locked (p : Word) : (s.ioRead8 p).2.locked = s.locked := (keeps_ioRead8 s p).locked
@[simp] theorem State.ioRead8_armed (p : Word) : (s.ioRead8 p).2.armed = s.armed := (keeps_ioRead8 s p).armed
@[simp] theorem State.ioRead8_inProgress (p : Word) : (s.ioRead8 p).2.inProgress = s.inProgress :=
  (keeps_ioRead8 s p).inProgress
@[simp] theorem State.ioRead8_shadow (p : Word) : (s.ioRead8 p).2.shadow = s.shadow := (keeps_ioRead8 s p).shadow
@[simp] theorem State.ioRead8_trap (p : Word) : (s.ioRead8 p).2.trap = s.trap := (keeps_ioRead8 s p).trap
@[simp] theorem State.ioRead8_params (p : Word) : (s.ioRead8 p).2.params = s.params := (keeps_ioRead8 s p).params
@[simp] theorem State.ioRead8_kindAt (p : Word) (x : Addr) : (s.ioRead8 p).2.kindAt x = s.kindAt x := by
  simp [State.kindAt]
@[simp] theorem State.ioRead8_addr (p : Word) (r : SegReg) (x : Word) : (s.ioRead8 p).2.addr r x = s.addr r x := by
  simp [State.addr]

@[simp] theorem State.ioWrite8_regs (p : Word) (v : Byte) : (s.ioWrite8 p v).regs = s.regs :=
  (keeps_ioWrite8 s p v).regs
@[simp] theorem State.ioWrite8_segs (p : Word) (v : Byte) : (s.ioWrite8 p v).segs = s.segs :=
  (keeps_ioWrite8 s p v).segs
@[simp] theorem State.ioWrite8_ip (p : Word) (v : Byte) : (s.ioWrite8 p v).ip = s.ip := (keeps_ioWrite8 s p v).ip
@[simp] theorem State.ioWrite8_flags (p : Word) (v : Byte) : (s.ioWrite8 p v).flags = s.flags :=
  (keeps_ioWrite8 s p v).flags
@[simp] theorem State.ioWrite8_halted (p : Word) (v : Byte) : (s.ioWrite8 p v).halted = s.halted :=
  (keeps_ioWrite8 s p v).halted
@[simp] theorem State.ioWrite8_locked (p : Word) (v : Byte) : (s.ioWrite8 p v).locked = s.locked :=
  (keeps_ioWrite8 s p v).locked
@[simp] theorem State.ioWrite8_armed (p : Word) (v : Byte) : (s.ioWrite8 p v).armed = s.armed :=
  (keeps_ioWrite8 s p v).armed
@[simp] theorem State.ioWrite8_inProgress (p : Word) (v : Byte) : (s.ioWrite8 p v).inProgress = s.inProgress :=
  (keeps_ioWrite8 s p v).inProgress
@[simp] theorem State.ioWrite8_shadow (p : Word) (v : Byte) : (s.ioWrite8 p v).shadow = s.shadow :=
  (keeps_ioWrite8 s p v).shadow
@[simp] theorem State.ioWrite8_trap (p : Word) (v : Byte) : (s.ioWrite8 p v).trap = s.trap :=
  (keeps_ioWrite8 s p v).trap
@[simp] theorem State.ioWrite8_params (p : Word) (v : Byte) : (s.ioWrite8 p v).params = s.params :=
  (keeps_ioWrite8 s p v).params
@[simp] theorem State.ioWrite8_kindAt (p : Word) (v : Byte) (x : Addr) : (s.ioWrite8 p v).kindAt x = s.kindAt x := by
  simp [State.kindAt]
@[simp] theorem State.ioWrite8_addr (p : Word) (v : Byte) (r : SegReg) (x : Word) : (s.ioWrite8 p v).addr r x = s.addr r x := by
  simp [State.addr]

@[simp] theorem State.ioRead16_regs (p : Word) : (s.ioRead16 p).2.regs = s.regs := (keeps_ioRead16 s p).regs
@[simp] theorem State.ioRead16_segs (p : Word) : (s.ioRead16 p).2.segs = s.segs := (keeps_ioRead16 s p).segs
@[simp] theorem State.ioRead16_ip (p : Word) : (s.ioRead16 p).2.ip = s.ip := (keeps_ioRead16 s p).ip
@[simp] theorem State.ioRead16_flags (p : Word) : (s.ioRead16 p).2.flags = s.flags := (keeps_ioRead16 s p).flags
@[simp] theorem State.ioRead16_halted (p : Word) : (s.ioRead16 p).2.halted = s.halted := (keeps_ioRead16 s p).halted
@[simp] theorem State.ioRead16_locked (p : Word) : (s.ioRead16 p).2.locked = s.locked := (keeps_ioRead16 s p).locked
@[simp] theorem State.ioRead16_armed (p : Word) : (s.ioRead16 p).2.armed = s.armed := (keeps_ioRead16 s p).armed
@[simp] theorem State.ioRead16_inProgress (p : Word) : (s.ioRead16 p).2.inProgress = s.inProgress :=
  (keeps_ioRead16 s p).inProgress
@[simp] theorem State.ioRead16_shadow (p : Word) : (s.ioRead16 p).2.shadow = s.shadow := (keeps_ioRead16 s p).shadow
@[simp] theorem State.ioRead16_trap (p : Word) : (s.ioRead16 p).2.trap = s.trap := (keeps_ioRead16 s p).trap
@[simp] theorem State.ioRead16_params (p : Word) : (s.ioRead16 p).2.params = s.params := (keeps_ioRead16 s p).params
@[simp] theorem State.ioRead16_kindAt (p : Word) (x : Addr) : (s.ioRead16 p).2.kindAt x = s.kindAt x := by
  simp [State.kindAt]
@[simp] theorem State.ioRead16_addr (p : Word) (r : SegReg) (x : Word) : (s.ioRead16 p).2.addr r x = s.addr r x := by
  simp [State.addr]

@[simp] theorem State.ioWrite16_regs (p v : Word) : (s.ioWrite16 p v).regs = s.regs := (keeps_ioWrite16 s p v).regs
@[simp] theorem State.ioWrite16_segs (p v : Word) : (s.ioWrite16 p v).segs = s.segs := (keeps_ioWrite16 s p v).segs
@[simp] theorem State.ioWrite16_ip (p v : Word) : (s.ioWrite16 p v).ip = s.ip := (keeps_ioWrite16 s p v).ip
@[simp] theorem State.ioWrite16_flags (p v : Word) : (s.ioWrite16 p v).flags = s.flags :=
  (keeps_ioWrite16 s p v).flags
@[simp] theorem State.ioWrite16_halted (p v : Word) : (s.ioWrite16 p v).halted = s.halted :=
  (keeps_ioWrite16 s p v).halted
@[simp] theorem State.ioWrite16_locked (p v : Word) : (s.ioWrite16 p v).locked = s.locked :=
  (keeps_ioWrite16 s p v).locked
@[simp] theorem State.ioWrite16_armed (p v : Word) : (s.ioWrite16 p v).armed = s.armed :=
  (keeps_ioWrite16 s p v).armed
@[simp] theorem State.ioWrite16_inProgress (p v : Word) : (s.ioWrite16 p v).inProgress = s.inProgress :=
  (keeps_ioWrite16 s p v).inProgress
@[simp] theorem State.ioWrite16_shadow (p v : Word) : (s.ioWrite16 p v).shadow = s.shadow :=
  (keeps_ioWrite16 s p v).shadow
@[simp] theorem State.ioWrite16_trap (p v : Word) : (s.ioWrite16 p v).trap = s.trap := (keeps_ioWrite16 s p v).trap
@[simp] theorem State.ioWrite16_params (p v : Word) : (s.ioWrite16 p v).params = s.params :=
  (keeps_ioWrite16 s p v).params
@[simp] theorem State.ioWrite16_kindAt (p v : Word) (x : Addr) : (s.ioWrite16 p v).kindAt x = s.kindAt x := by
  simp [State.kindAt]
@[simp] theorem State.ioWrite16_addr (p v : Word) (r : SegReg) (x : Word) : (s.ioWrite16 p v).addr r x = s.addr r x := by
  simp [State.addr]

@[simp] theorem State.acknowledge_regs : s.acknowledge.2.regs = s.regs := (keeps_acknowledge s).regs
@[simp] theorem State.acknowledge_segs : s.acknowledge.2.segs = s.segs := (keeps_acknowledge s).segs
@[simp] theorem State.acknowledge_ip : s.acknowledge.2.ip = s.ip := (keeps_acknowledge s).ip
@[simp] theorem State.acknowledge_flags : s.acknowledge.2.flags = s.flags := (keeps_acknowledge s).flags
@[simp] theorem State.acknowledge_halted : s.acknowledge.2.halted = s.halted := (keeps_acknowledge s).halted
@[simp] theorem State.acknowledge_locked : s.acknowledge.2.locked = s.locked := (keeps_acknowledge s).locked
@[simp] theorem State.acknowledge_armed : s.acknowledge.2.armed = s.armed := (keeps_acknowledge s).armed
@[simp] theorem State.acknowledge_inProgress : s.acknowledge.2.inProgress = s.inProgress :=
  (keeps_acknowledge s).inProgress
@[simp] theorem State.acknowledge_shadow : s.acknowledge.2.shadow = s.shadow := (keeps_acknowledge s).shadow
@[simp] theorem State.acknowledge_trap : s.acknowledge.2.trap = s.trap := (keeps_acknowledge s).trap
@[simp] theorem State.acknowledge_params : s.acknowledge.2.params = s.params := (keeps_acknowledge s).params
@[simp] theorem State.acknowledge_kindAt (x : Addr) : s.acknowledge.2.kindAt x = s.kindAt x := by
  simp [State.kindAt]
@[simp] theorem State.acknowledge_addr (r : SegReg) (x : Word) : s.acknowledge.2.addr r x = s.addr r x := by
  simp [State.addr]

@[simp] theorem State.haltCycle_regs : s.haltCycle.regs = s.regs := (keeps_haltCycle s).regs
@[simp] theorem State.haltCycle_segs : s.haltCycle.segs = s.segs := (keeps_haltCycle s).segs
@[simp] theorem State.haltCycle_ip : s.haltCycle.ip = s.ip := (keeps_haltCycle s).ip
@[simp] theorem State.haltCycle_flags : s.haltCycle.flags = s.flags := (keeps_haltCycle s).flags
@[simp] theorem State.haltCycle_halted : s.haltCycle.halted = s.halted := (keeps_haltCycle s).halted
@[simp] theorem State.haltCycle_locked : s.haltCycle.locked = s.locked := (keeps_haltCycle s).locked
@[simp] theorem State.haltCycle_armed : s.haltCycle.armed = s.armed := (keeps_haltCycle s).armed
@[simp] theorem State.haltCycle_inProgress : s.haltCycle.inProgress = s.inProgress := (keeps_haltCycle s).inProgress
@[simp] theorem State.haltCycle_shadow : s.haltCycle.shadow = s.shadow := (keeps_haltCycle s).shadow
@[simp] theorem State.haltCycle_trap : s.haltCycle.trap = s.trap := (keeps_haltCycle s).trap
@[simp] theorem State.haltCycle_params : s.haltCycle.params = s.params := (keeps_haltCycle s).params
@[simp] theorem State.haltCycle_kindAt (x : Addr) : s.haltCycle.kindAt x = s.kindAt x := by
  simp [State.kindAt]
@[simp] theorem State.haltCycle_addr (r : SegReg) (x : Word) : s.haltCycle.addr r x = s.addr r x := by
  simp [State.addr]

@[simp] theorem State.flushQueue_regs : s.flushQueue.regs = s.regs := (keeps_flushQueue s).regs
@[simp] theorem State.flushQueue_segs : s.flushQueue.segs = s.segs := (keeps_flushQueue s).segs
@[simp] theorem State.flushQueue_ip : s.flushQueue.ip = s.ip := (keeps_flushQueue s).ip
@[simp] theorem State.flushQueue_flags : s.flushQueue.flags = s.flags := (keeps_flushQueue s).flags
@[simp] theorem State.flushQueue_halted : s.flushQueue.halted = s.halted := (keeps_flushQueue s).halted
@[simp] theorem State.flushQueue_locked : s.flushQueue.locked = s.locked := (keeps_flushQueue s).locked
@[simp] theorem State.flushQueue_armed : s.flushQueue.armed = s.armed := (keeps_flushQueue s).armed
@[simp] theorem State.flushQueue_inProgress : s.flushQueue.inProgress = s.inProgress :=
  (keeps_flushQueue s).inProgress
@[simp] theorem State.flushQueue_shadow : s.flushQueue.shadow = s.shadow := (keeps_flushQueue s).shadow
@[simp] theorem State.flushQueue_trap : s.flushQueue.trap = s.trap := (keeps_flushQueue s).trap
@[simp] theorem State.flushQueue_params : s.flushQueue.params = s.params := (keeps_flushQueue s).params
@[simp] theorem State.flushQueue_kindAt (x : Addr) : s.flushQueue.kindAt x = s.kindAt x := by
  simp [State.kindAt]
@[simp] theorem State.flushQueue_addr (r : SegReg) (x : Word) : s.flushQueue.addr r x = s.addr r x := by
  simp [State.addr]

@[simp] theorem State.readVector_regs (t : Byte) : (s.readVector t).2.regs = s.regs := (keeps_readVector s t).regs
@[simp] theorem State.readVector_segs (t : Byte) : (s.readVector t).2.segs = s.segs := (keeps_readVector s t).segs
@[simp] theorem State.readVector_ip (t : Byte) : (s.readVector t).2.ip = s.ip := (keeps_readVector s t).ip
@[simp] theorem State.readVector_flags (t : Byte) : (s.readVector t).2.flags = s.flags := (keeps_readVector s t).flags
@[simp] theorem State.readVector_halted (t : Byte) : (s.readVector t).2.halted = s.halted :=
  (keeps_readVector s t).halted
@[simp] theorem State.readVector_locked (t : Byte) : (s.readVector t).2.locked = s.locked :=
  (keeps_readVector s t).locked
@[simp] theorem State.readVector_armed (t : Byte) : (s.readVector t).2.armed = s.armed := (keeps_readVector s t).armed
@[simp] theorem State.readVector_inProgress (t : Byte) : (s.readVector t).2.inProgress = s.inProgress :=
  (keeps_readVector s t).inProgress
@[simp] theorem State.readVector_shadow (t : Byte) : (s.readVector t).2.shadow = s.shadow :=
  (keeps_readVector s t).shadow
@[simp] theorem State.readVector_trap (t : Byte) : (s.readVector t).2.trap = s.trap := (keeps_readVector s t).trap
@[simp] theorem State.readVector_params (t : Byte) : (s.readVector t).2.params = s.params :=
  (keeps_readVector s t).params
@[simp] theorem State.readVector_kindAt (t : Byte) (x : Addr) : (s.readVector t).2.kindAt x = s.kindAt x := by
  simp [State.kindAt]
@[simp] theorem State.readVector_addr (t : Byte) (r : SegReg) (x : Word) : (s.readVector t).2.addr r x = s.addr r x := by
  simp [State.addr]

@[simp] theorem State.get8_regs (p : Place Reg8) : (s.get8 p).2.regs = s.regs := (keeps_get8 s p).regs
@[simp] theorem State.get8_segs (p : Place Reg8) : (s.get8 p).2.segs = s.segs := (keeps_get8 s p).segs
@[simp] theorem State.get8_ip (p : Place Reg8) : (s.get8 p).2.ip = s.ip := (keeps_get8 s p).ip
@[simp] theorem State.get8_flags (p : Place Reg8) : (s.get8 p).2.flags = s.flags := (keeps_get8 s p).flags
@[simp] theorem State.get8_halted (p : Place Reg8) : (s.get8 p).2.halted = s.halted := (keeps_get8 s p).halted
@[simp] theorem State.get8_locked (p : Place Reg8) : (s.get8 p).2.locked = s.locked := (keeps_get8 s p).locked
@[simp] theorem State.get8_armed (p : Place Reg8) : (s.get8 p).2.armed = s.armed := (keeps_get8 s p).armed
@[simp] theorem State.get8_inProgress (p : Place Reg8) : (s.get8 p).2.inProgress = s.inProgress :=
  (keeps_get8 s p).inProgress
@[simp] theorem State.get8_shadow (p : Place Reg8) : (s.get8 p).2.shadow = s.shadow := (keeps_get8 s p).shadow
@[simp] theorem State.get8_trap (p : Place Reg8) : (s.get8 p).2.trap = s.trap := (keeps_get8 s p).trap
@[simp] theorem State.get8_params (p : Place Reg8) : (s.get8 p).2.params = s.params := (keeps_get8 s p).params
@[simp] theorem State.get8_kindAt (p : Place Reg8) (x : Addr) : (s.get8 p).2.kindAt x = s.kindAt x := by
  simp [State.kindAt]
@[simp] theorem State.get8_addr (p : Place Reg8) (r : SegReg) (x : Word) : (s.get8 p).2.addr r x = s.addr r x := by
  simp [State.addr]

@[simp] theorem State.get16_regs (p : Place Reg16) : (s.get16 p).2.regs = s.regs := (keeps_get16 s p).regs
@[simp] theorem State.get16_segs (p : Place Reg16) : (s.get16 p).2.segs = s.segs := (keeps_get16 s p).segs
@[simp] theorem State.get16_ip (p : Place Reg16) : (s.get16 p).2.ip = s.ip := (keeps_get16 s p).ip
@[simp] theorem State.get16_flags (p : Place Reg16) : (s.get16 p).2.flags = s.flags := (keeps_get16 s p).flags
@[simp] theorem State.get16_halted (p : Place Reg16) : (s.get16 p).2.halted = s.halted := (keeps_get16 s p).halted
@[simp] theorem State.get16_locked (p : Place Reg16) : (s.get16 p).2.locked = s.locked := (keeps_get16 s p).locked
@[simp] theorem State.get16_armed (p : Place Reg16) : (s.get16 p).2.armed = s.armed := (keeps_get16 s p).armed
@[simp] theorem State.get16_inProgress (p : Place Reg16) : (s.get16 p).2.inProgress = s.inProgress :=
  (keeps_get16 s p).inProgress
@[simp] theorem State.get16_shadow (p : Place Reg16) : (s.get16 p).2.shadow = s.shadow := (keeps_get16 s p).shadow
@[simp] theorem State.get16_trap (p : Place Reg16) : (s.get16 p).2.trap = s.trap := (keeps_get16 s p).trap
@[simp] theorem State.get16_params (p : Place Reg16) : (s.get16 p).2.params = s.params := (keeps_get16 s p).params
@[simp] theorem State.get16_kindAt (p : Place Reg16) (x : Addr) : (s.get16 p).2.kindAt x = s.kindAt x := by
  simp [State.kindAt]
@[simp] theorem State.get16_addr (p : Place Reg16) (r : SegReg) (x : Word) : (s.get16 p).2.addr r x = s.addr r x := by
  simp [State.addr]

@[simp] theorem State.readFar_regs (m : MemOp) : (s.readFar m).2.regs = s.regs := (keeps_readFar s m).regs
@[simp] theorem State.readFar_segs (m : MemOp) : (s.readFar m).2.segs = s.segs := (keeps_readFar s m).segs
@[simp] theorem State.readFar_ip (m : MemOp) : (s.readFar m).2.ip = s.ip := (keeps_readFar s m).ip
@[simp] theorem State.readFar_flags (m : MemOp) : (s.readFar m).2.flags = s.flags := (keeps_readFar s m).flags
@[simp] theorem State.readFar_halted (m : MemOp) : (s.readFar m).2.halted = s.halted := (keeps_readFar s m).halted
@[simp] theorem State.readFar_locked (m : MemOp) : (s.readFar m).2.locked = s.locked := (keeps_readFar s m).locked
@[simp] theorem State.readFar_armed (m : MemOp) : (s.readFar m).2.armed = s.armed := (keeps_readFar s m).armed
@[simp] theorem State.readFar_inProgress (m : MemOp) : (s.readFar m).2.inProgress = s.inProgress :=
  (keeps_readFar s m).inProgress
@[simp] theorem State.readFar_shadow (m : MemOp) : (s.readFar m).2.shadow = s.shadow := (keeps_readFar s m).shadow
@[simp] theorem State.readFar_trap (m : MemOp) : (s.readFar m).2.trap = s.trap := (keeps_readFar s m).trap
@[simp] theorem State.readFar_params (m : MemOp) : (s.readFar m).2.params = s.params := (keeps_readFar s m).params
@[simp] theorem State.readFar_kindAt (m : MemOp) (x : Addr) : (s.readFar m).2.kindAt x = s.kindAt x := by
  simp [State.kindAt]
@[simp] theorem State.readFar_addr (m : MemOp) (r : SegReg) (x : Word) : (s.readFar m).2.addr r x = s.addr r x := by
  simp [State.addr]

end

end Sys2Proof.Machine
end

