-- ==== Sys2Proof/Laws/Access.lean ====
section
/-! SUPPORT. Where nothing happens beside the CPU: what a bus cycle is, what a read answers, that it changes no memory,
and which bytes a write changes. -/

namespace Sys2Proof.Machine

variable (s : State)

/-! ### One cycle -/

@[simp] theorem State.pass_of_quiet (h : s.Quiet) (pt : Point) : s.pass pt = s := by
  simp [State.pass, h.1, Flight.idle]

theorem State.barred_of_quiet (h : s.Quiet) : s.barred = false := by simp [State.barred, h.2.1, h.2.2]

/-- A cycle moves its data and is entered in the log, and that is all. -/
theorem State.cycle_of_quiet (h : s.Quiet) (pt : Point) (k : BusKind) (a : Option Addr) (g : Option SegReg)
    (f : State → Lanes × State) :
    s.cycle pt k a g f = ((f s).1, (f s).2.record (s.busCycle k a g (f s).1)) := by
  simp [State.cycle, State.runCycle, h, s.barred_of_quiet h, h.1, Flight.idle]

/-- The queue is emptied, and that is all. -/
theorem State.flushQueue_of_quiet (h : s.Quiet) : s.flushQueue = s.emptyQueue := by
  simp [State.flushQueue, h, h.1, Flight.idle]

/-- A near transfer: IP, the queue, and what QS1 QS0 report. -/
theorem State.jumpNear_of_quiet (h : s.Quiet) (v : Word) :
    s.jumpNear v = { s with ip := v, queue := [], log := { s.log with queue := s.log.queue ++ [.emptied] } } := by
  rw [State.jumpNear, s.flushQueue_of_quiet h]
  rfl

/-- A far transfer: CS besides. -/
theorem State.jumpFar_of_quiet (h : s.Quiet) (c o : Word) :
    s.jumpFar c o = { s with segs := s.segs.put .cs c, ip := o, queue := [],
                             log := { s.log with queue := s.log.queue ++ [.emptied] } } := by
  rw [State.jumpFar, s.flushQueue_of_quiet h]
  rfl

@[simp] theorem Lanes.byteOf_byte (a : Addr) (v : Byte) : (Lanes.byte a v).byteOf a = v := by
  unfold Lanes.byteOf Lanes.byte
  split <;> rfl

@[simp] theorem Lanes.toWord_word (v : Word) : (Lanes.word v).toWord = v := by simp [Lanes.toWord, Lanes.word]

/-! ### Bytes -/

/-- A byte read cycle answers a free byte where nothing is installed, otherwise what memory holds. -/
theorem State.readByte_fst (a : Addr) :
    (s.readByte a).1 = if s.kindAt a = .absent then Config.openByte s.floats else s.byteAt a := by
  unfold State.readByte; split <;> rfl

theorem State.readByte_eq (a : Addr) : ∃ n, (s.readByte a).2 = { s with floats := n } := by
  unfold State.readByte
  split
  · exact ⟨_, rfl⟩
  · exact ⟨s.floats, rfl⟩

@[simp] theorem State.readByte_mem (a : Addr) : (s.readByte a).2.mem = s.mem := by
  unfold State.readByte; split <;> rfl

@[simp] theorem State.readByte_devices (a : Addr) : (s.readByte a).2.devices = s.devices := by
  unfold State.readByte; split <;> rfl

@[simp] theorem State.readByte_floats (a : Addr) :
    (s.readByte a).2.floats = if s.kindAt a = .absent then s.floats + 1 else s.floats := by
  unfold State.readByte; split <;> rfl

theorem State.writeByte_eq (a : Addr) (v : Byte) : ∃ m, s.writeByte a v = { s with mem := m } := by
  unfold State.writeByte
  split
  · exact ⟨_, rfl⟩
  · exact ⟨s.mem, rfl⟩

/-- A write does not look at the log. -/
theorem State.writeByte_with (a : Addr) (v : Byte) (l : Log) :
    ({ s with waits := 0, log := l } : State).writeByte a v = { s.writeByte a v with waits := 0, log := l } := by
  have k : ({ s with waits := 0, log := l } : State).kindAt a = s.kindAt a := rfl
  unfold State.writeByte
  rw [k]
  split <;> rfl

/-- A write changes its own byte, in RAM, and no other. -/
theorem State.byteAt_writeByte (a b : Addr) (v : Byte) :
    (s.writeByte a v).byteAt b = if b = a ∧ s.kindAt a = .ram then v else s.byteAt b := by
  unfold State.writeByte State.byteAt
  by_cases hk : s.kindAt a = .ram
  · by_cases hb : b = a
    · simp [hk, hb, Memory.read_write]
    · have : b.toNat ≠ a.toNat := fun h => hb (BitVec.eq_of_toNat_eq h)
      simp [hk, hb, Memory.read_write, this]
  · simp [hk]

/-- Equal memories hold equal bytes. -/
theorem State.byteAt_congr {s t : State} (h : t.mem = s.mem) (a : Addr) : t.byteAt a = s.byteAt a := by
  simp [State.byteAt, h]

/-! ### Reads of memory -/

/-- The word a pair of bytes makes, the second read after the first. -/
def State.pairAt (lo hi : Addr) : Word := wordOf (s.readByte lo).1 ((s.readByte lo).2.readByte hi).1

/-- The counter of bytes read where nothing answers, after a pair of reads. -/
def State.pairFloats (lo hi : Addr) : Nat := ((s.readByte lo).2.readByte hi).2.floats

theorem State.readOne_of_quiet (h : s.Quiet) (pt : Point) (a : Addr) (g : Option SegReg) :
    ∃ l, s.readOne pt .memory a g =
      ((s.readByte a).1, { s with floats := (s.readByte a).2.floats, waits := 0, log := l }) := by
  obtain ⟨n, e⟩ := s.readByte_eq a
  simp only [State.readOne, State.cycle_of_quiet s h, State.input, Lanes.byteOf_byte, e]
  exact ⟨_, rfl⟩

theorem State.readPair_of_quiet (h : s.Quiet) (lo hi : Addr) (g : Option SegReg) :
    ∃ l, s.readPair .memory lo hi g =
      (s.pairAt lo hi, { s with floats := s.pairFloats lo hi, waits := 0, log := l }) := by
  unfold State.readPair State.pairAt State.pairFloats
  obtain ⟨n, e⟩ := s.readByte_eq lo
  split
  · obtain ⟨l, f⟩ := s.readOne_of_quiet h .between lo g
    rw [show (s.readByte lo).2.floats = n by rw [e]] at f
    obtain ⟨k, c⟩ := State.readOne_of_quiet { s with floats := n, waits := 0, log := l } h .insideWord hi g
    simp only [f, c, e, State.readByte_fst, State.readByte_floats]
    exact ⟨k, rfl⟩
  · obtain ⟨k, c⟩ := State.readByte_eq { s with floats := n } hi
    simp only [State.cycle_of_quiet s h, State.inputWord, State.input, Lanes.toWord_word, e, c]
    exact ⟨_, rfl⟩

theorem State.readMem8_of_quiet (h : s.Quiet) (g : SegReg) (off : Word) :
    ∃ l, s.readMem8 g off = ((s.readByte (s.addr g off)).1,
      { s with floats := (s.readByte (s.addr g off)).2.floats, waits := 0, log := l }) :=
  s.readOne_of_quiet h _ _ _

theorem State.readMem16_of_quiet (h : s.Quiet) (g : SegReg) (off : Word) :
    ∃ l, s.readMem16 g off = (s.pairAt (s.addr g off) (s.addr g (off + 1)),
      { s with floats := s.pairFloats (s.addr g off) (s.addr g (off + 1)), waits := 0, log := l }) :=
  s.readPair_of_quiet h _ _ _

/-! ### Writes of memory -/

theorem State.writeOne_of_quiet (h : s.Quiet) (pt : Point) (a : Addr) (v : Byte) (g : Option SegReg) :
    ∃ l, s.writeOne pt .memory a v g = { s.writeByte a v with waits := 0, log := l } := by
  simp only [State.writeOne, State.cycle_of_quiet s h, State.output]
  exact ⟨_, rfl⟩

theorem State.writePair_of_quiet (h : s.Quiet) (lo hi : Addr) (v : Word) (g : Option SegReg) :
    ∃ l, s.writePair .memory lo hi v g =
      { (s.writeByte lo (lowByte v)).writeByte hi (highByte v) with waits := 0, log := l } := by
  unfold State.writePair
  split
  · obtain ⟨l, e⟩ := s.writeOne_of_quiet h .between lo (lowByte v) g
    obtain ⟨m, f⟩ := s.writeByte_eq lo (lowByte v)
    obtain ⟨k, c⟩ := State.writeOne_of_quiet { s with mem := m, waits := 0, log := l } h .insideWord hi (highByte v) g
    rw [e, f, c, State.writeByte_with { s with mem := m }]
    exact ⟨k, rfl⟩
  · simp only [State.cycle_of_quiet s h, State.outputWord, State.output]
    exact ⟨_, rfl⟩

/-- A word written changes memory, the log and the wait states used up. -/
theorem State.writePair_eq (h : s.Quiet) (lo hi : Addr) (v : Word) (g : Option SegReg) :
    ∃ m l, s.writePair .memory lo hi v g = { s with mem := m, waits := 0, log := l } := by
  obtain ⟨l, e⟩ := s.writePair_of_quiet h lo hi v g
  obtain ⟨m, f⟩ := s.writeByte_eq lo (lowByte v)
  obtain ⟨n, k⟩ := State.writeByte_eq { s with mem := m } hi (highByte v)
  rw [e, f, k]
  exact ⟨n, l, rfl⟩

/-- A byte written changes memory, the log and the wait states used up. -/
theorem State.writeMem8_eq (h : s.Quiet) (g : SegReg) (off : Word) (v : Byte) :
    ∃ m l, s.writeMem8 g off v = { s with mem := m, waits := 0, log := l } := by
  obtain ⟨l, e⟩ := s.writeOne_of_quiet h .between (s.addr g off) v (some g)
  obtain ⟨m, f⟩ := s.writeByte_eq (s.addr g off) v
  refine ⟨m, l, ?_⟩
  rw [State.writeMem8, e, f]

theorem State.writeMem16_eq (h : s.Quiet) (g : SegReg) (off v : Word) :
    ∃ m l, s.writeMem16 g off v = { s with mem := m, waits := 0, log := l } :=
  s.writePair_eq h _ _ _ _

theorem State.byteAt_writeMem8 (h : s.Quiet) (g : SegReg) (off : Word) (v : Byte) (b : Addr) :
    (s.writeMem8 g off v).byteAt b =
      if b = s.addr g off ∧ s.kindAt (s.addr g off) = .ram then v else s.byteAt b := by
  obtain ⟨l, e⟩ := s.writeOne_of_quiet h .between (s.addr g off) v (some g)
  rw [State.writeMem8, e]
  exact s.byteAt_writeByte _ _ _

/-- A word written at two addresses: the high byte where the second is, then the low byte, each in RAM only. -/
theorem State.byteAt_writePair (h : s.Quiet) (lo hi : Addr) (v : Word) (g : Option SegReg) (b : Addr) :
    (s.writePair .memory lo hi v g).byteAt b =
      if b = hi ∧ s.kindAt hi = .ram then highByte v
      else if b = lo ∧ s.kindAt lo = .ram then lowByte v else s.byteAt b := by
  obtain ⟨l, e⟩ := s.writePair_of_quiet h lo hi v g
  rw [e]
  show ((s.writeByte lo (lowByte v)).writeByte hi (highByte v)).byteAt b = _
  rw [State.byteAt_writeByte, State.byteAt_writeByte, State.writeByte_kindAt]

theorem State.byteAt_writeMem16 (h : s.Quiet) (g : SegReg) (off : Word) (v : Word) (b : Addr) :
    (s.writeMem16 g off v).byteAt b =
      if b = s.addr g (off + 1) ∧ s.kindAt (s.addr g (off + 1)) = .ram then highByte v
      else if b = s.addr g off ∧ s.kindAt (s.addr g off) = .ram then lowByte v else s.byteAt b :=
  s.byteAt_writePair h _ _ _ _ _

/-! ### The I/O space -/

/-- A read of a port, free or answered, changes the devices or the counter of bytes read where nothing answers. -/
theorem State.readPort_eq (p : Nat) : ∃ n d, (s.readPort p).2 = { s with floats := n, devices := d } := by
  unfold State.readPort
  split
  · exact ⟨s.floats, _, rfl⟩
  · exact ⟨_, s.devices, rfl⟩

/-- The device at a port answers it, or nothing does. -/
theorem State.readPort_of_take (p : Nat) :
    (∀ r, Device.take p s.devices = some r → (s.readPort p).1 = r.1 ∧ (s.readPort p).2.devices = r.2) ∧
    (Device.take p s.devices = none → (s.readPort p).2.devices = s.devices) := by
  unfold State.readPort
  constructor
  · intro r e; rw [e]; exact ⟨rfl, rfl⟩
  · intro e; rw [e]; rfl

theorem portAddr_toNat (p : Word) : (portAddr p).toNat = p.toNat := by
  simp [portAddr, BitVec.toNat_setWidth]
  omega

/-! ### Undefined flags -/

/-- Drawing undefined flags touches the flags and the counter of free values only. -/
theorem State.undef_eq (ks : List Flag) : ∃ f n, s.undef ks = { s with flags := f, draws := n } := by
  induction ks generalizing s with
  | nil => exact ⟨s.flags, s.draws, rfl⟩
  | cons k ks ih => obtain ⟨f, n, e⟩ := ih { s.drawBit.2 with flags := s.flags.put k s.drawBit.1 }; exact ⟨f, n, e⟩

/-! ### The stack -/

/-- A push writes SP, memory and the log. -/
theorem State.push16_eq (h : s.Quiet) (v : Word) :
    ∃ m l, s.push16 v = { s with regs := s.regs.put16 .sp (s.regs.sp - 2), mem := m, waits := 0, log := l } := by
  obtain ⟨m, l, e⟩ := State.writeMem16_eq (s.setReg16 .sp (s.reg16 .sp - 2)) h .ss (s.regs.sp - 2) v
  exact ⟨m, l, e⟩

/-- The bytes after a push. -/
theorem State.byteAt_push16 (h : s.Quiet) (v : Word) (b : Addr) :
    (s.push16 v).byteAt b =
      if b = s.addr .ss (s.regs.sp - 2 + 1) ∧ s.kindAt (s.addr .ss (s.regs.sp - 2 + 1)) = .ram then highByte v
      else if b = s.addr .ss (s.regs.sp - 2) ∧ s.kindAt (s.addr .ss (s.regs.sp - 2)) = .ram then lowByte v
      else s.byteAt b :=
  State.byteAt_writeMem16 (s.setReg16 .sp (s.reg16 .sp - 2)) h .ss (s.regs.sp - 2) v b

end Sys2Proof.Machine
end

