-- ==== Sys2Proof/Laws/Claims.lean ====
section
/-! SUPPORT. What each shared operation does in the words of the statements: reads, writes, the stack, far pointers and
the interrupt sequence, with no other master about. -/

namespace Sys2Proof.Claims

open Machine

/-- The word a pair of reads makes. -/
theorem pairAt_loadedWord (s : State) (g off) :
    s.pairAt (s.addr g off) (s.addr g (off + 1)) = loadedWord s g off s.floats := by
  unfold State.pairAt loadedWord loaded spent
  simp only [State.readByte_fst, State.readByte_kindAt, State.readByte_floats]
  rw [State.byteAt_congr (s.readByte_mem _)]
  split <;> split <;> simp_all [wordOf]

/-- The counter of bytes read where nothing answers, after a pair of reads. -/
theorem pairFloats_spentWord (s : State) (g off) :
    s.pairFloats (s.addr g off) (s.addr g (off + 1)) = s.floats + spentWord s g off := by
  unfold State.pairFloats spentWord spent
  simp only [State.readByte_floats, State.readByte_kindAt]
  split <;> split <;> simp_all

/-- A byte read answers what `loaded` says, and changes the log and the counters of reads. -/
theorem readMem8_loads (s : State) (h : s.Quiet) (g off) :
    ∃ l, s.readMem8 g off = (loaded s (s.addr g off) s.floats,
      { s with floats := s.floats + spent s (s.addr g off), waits := 0, log := l }) := by
  obtain ⟨l, e⟩ := s.readMem8_of_quiet h g off
  refine ⟨l, ?_⟩
  rw [e, State.readByte_fst, State.readByte_floats]
  unfold loaded spent
  split <;> rfl

/-- A word read answers what `loadedWord` says, and changes the log and the counters of reads. -/
theorem readMem16_loads (s : State) (h : s.Quiet) (g off) :
    ∃ l, s.readMem16 g off = (loadedWord s g off s.floats,
      { s with floats := s.floats + spentWord s g off, waits := 0, log := l }) := by
  obtain ⟨l, e⟩ := s.readMem16_of_quiet h g off
  exact ⟨l, by rw [e, pairAt_loadedWord, pairFloats_spentWord]⟩

/-- The bytes after a byte write. -/
theorem byteAt_writeMem8_poke (s : State) (h : s.Quiet) (g off v b) :
    (s.writeMem8 g off v).byteAt b = poke s s.byteAt (s.addr g off) v b := by
  rw [State.byteAt_writeMem8 s h]; rfl

/-- The bytes after a word write. -/
theorem byteAt_writeMem16_poke (s : State) (h : s.Quiet) (g off v b) :
    (s.writeMem16 g off v).byteAt b = pokeWord s s.byteAt g off v b := by
  rw [State.byteAt_writeMem16 s h]; rfl

/-- Reading a vector changes the log and the counters of reads. -/
theorem readVector_state (s : State) (h : s.Quiet) (n : Byte) :
    ∃ d w l, (s.readVector n).2 = { s with floats := d, waits := w, log := l } := by
  unfold State.readVector
  obtain ⟨b, e⟩ := s.readPair_of_quiet h (vectorAddr n 0) (vectorAddr n 1) none
  simp only [e]
  obtain ⟨d, f⟩ := State.readPair_of_quiet
    { s with floats := s.pairFloats (vectorAddr n 0) (vectorAddr n 1), waits := 0, log := b } h (vectorAddr n 2)
    (vectorAddr n 3) none
  rw [f]
  exact ⟨_, _, d, rfl⟩

/-- A vector that is there is read as its two words. -/
theorem readVector_words (s : State) (h : s.Quiet) (n : Byte) (v : vectorThere s n) :
    (s.readVector n).1 = (vectorWord s.byteAt n 0, vectorWord s.byteAt n 2) := by
  unfold State.readVector vectorWord
  have h0 := v 0 (by omega); have h1 := v 1 (by omega); have h2 := v 2 (by omega); have h3 := v 3 (by omega)
  obtain ⟨b, e⟩ := s.readPair_of_quiet h (vectorAddr n 0) (vectorAddr n 1) none
  simp only [e]
  obtain ⟨d, f⟩ := State.readPair_of_quiet
    { s with floats := s.pairFloats (vectorAddr n 0) (vectorAddr n 1), waits := 0, log := b } h (vectorAddr n 2)
    (vectorAddr n 3) none
  rw [f]
  simp only [State.pairAt, State.readByte_fst, State.readByte_kindAt, vectorAddr]
  rw [if_neg h0, if_neg h1]
  have k : ∀ x c, ({ s with floats := c, waits := 0, log := b } : State).kindAt x = s.kindAt x := fun _ _ => rfl
  simp only [k]
  rw [if_neg h2, if_neg h3]
  rw [State.byteAt_congr (s.readByte_mem _), State.byteAt_congr (State.readByte_mem _ _)]
  rfl

/-- Steps 1 to 4 of the interrupt sequence (R530). -/
theorem pushFrame_framed (s : State) (h : s.Quiet) (rcs rip) : ∃ m l, s.pushFrame rcs rip =
    { s with
      regs := s.regs.put16 .sp (s.regs.sp - 6), flags := {s.flags with ifl := false, tf := false}, mem := m
      waits := 0, log := l } ∧
    ∀ a, (s.pushFrame rcs rip).byteAt a = framed s rcs rip a := by
  unfold State.pushFrame
  obtain ⟨m, l, e⟩ := s.push16_eq h s.flags.image
  have e1 := State.byteAt_push16 s h s.flags.image
  rw [e] at e1 ⊢
  simp only [State.setFlags]
  set b : State := { s with
    regs := s.regs.put16 .sp (s.regs.sp - 2), mem := m, waits := 0, log := l
    flags := { s.flags with ifl := false, tf := false} } with hb
  obtain ⟨m2, l2, e2⟩ := b.push16_eq h rcs
  have e3 := State.byteAt_push16 b h rcs
  simp only [e2] at e3 ⊢
  set c : State := { b with regs := b.regs.put16 .sp (b.regs.sp - 2), mem := m2, waits := 0, log := l2 } with hc
  obtain ⟨m3, l3, e4⟩ := c.push16_eq h rip
  have e5 := State.byteAt_push16 c h rip
  rw [e4] at e5 ⊢
  have spb : b.regs.sp = s.regs.sp - 2 := rfl
  have spc : c.regs.sp = s.regs.sp - 2 - 2 := rfl
  have s4 : s.regs.sp - 2 - 2 = s.regs.sp - 4 := by bv_omega
  have s6 : s.regs.sp - 4 - 2 = s.regs.sp - 6 := by bv_omega
  refine ⟨m3, l3, ?_, ?_⟩
  · rw [hc, hb]; simp [Regs.put16]; bv_omega
  · intro a
    rw [e5, spc, s4, s6]
    have : c.byteAt a = pokeWord s (pokeWord s s.byteAt .ss (s.regs.sp - 2) s.flags.image) .ss (s.regs.sp - 4) rcs a := by
      rw [e3, spb, s4]
      have : b.byteAt a = pokeWord s s.byteAt .ss (s.regs.sp - 2) s.flags.image a := e1 a
      rw [this]; rfl
    rw [this]; rfl

/-- All an interrupt sequence does (R530). -/
theorem interrupt_interrupted (s : State) (h : s.Quiet) (n rcs rip) :
    Interrupted s (s.interrupt n rcs rip) n rcs rip := by
  unfold State.interrupt Interrupted
  obtain ⟨m, l, e, em⟩ := pushFrame_framed s h rcs rip
  have ow : s.owedAfter n = owed s n := by unfold State.owedAfter owed; split <;> split <;> simp_all
  split
  · obtain ⟨d, w, l2, e2⟩ := readVector_state s h n
    obtain ⟨m3, l3, e3, em3⟩ := pushFrame_framed { s with floats := d, waits := w, log := l2 } h rcs rip
    refine ⟨(s.readVector n).1.2, (s.readVector n).1.1, ?_, ?_, ?_⟩
    · simp only [e2, e3]; rw [State.jumpFar_of_quiet _ (by exact h), ow]; rfl
    · intro a
      have k := em3 a
      simp only [e2, e3] at k ⊢
      rw [State.jumpFar_of_quiet _ (by exact h)]
      exact k
    · intro v; rw [readVector_words s h n v]; simp [vectorBytes, *]
  · obtain ⟨d, w, l2, e2⟩ := readVector_state (s.pushFrame rcs rip) (by rw [e]; exact h) n
    refine ⟨((s.pushFrame rcs rip).readVector n).1.2, ((s.pushFrame rcs rip).readVector n).1.1, ?_, ?_, ?_⟩
    · simp only [e2]; rw [e, State.jumpFar_of_quiet _ (by exact h), ow]; rfl
    · intro a
      have k := em a
      simp only [e2]
      rw [e] at k ⊢
      rw [State.jumpFar_of_quiet _ (by exact h)]
      exact k
    · intro v; rw [readVector_words _ (by rw [e]; exact h) n (by intro k hk; rw [e]; exact v k hk)]
      have : (s.pushFrame rcs rip).byteAt = framed s rcs rip := funext em
      have q : vectorBytes s rcs rip = (s.pushFrame rcs rip).byteAt := by rw [this]; simp [vectorBytes, *]
      rw [q]; exact ⟨rfl, rfl⟩

/-- A byte operand read. -/
theorem get8_operand (s : State) (h : s.Quiet) (p) :
    ∃ n w l, s.get8 p = (operand8 s p, { s with floats := n, waits := w, log := l }) := by
  cases p with
  | reg r => exact ⟨_, _, _, rfl⟩
  | mem g off =>
    obtain ⟨l, e⟩ := readMem8_loads s h g off
    exact ⟨_, _, l, e⟩

/-- A word operand read. -/
theorem get16_operand (s : State) (h : s.Quiet) (p) :
    ∃ n w l, s.get16 p = (operand16 s p, { s with floats := n, waits := w, log := l }) := by
  cases p with
  | reg r => exact ⟨_, _, _, rfl⟩
  | mem g off =>
    obtain ⟨l, e⟩ := readMem16_loads s h g off
    exact ⟨_, _, l, e⟩

/-- A byte operand written. -/
theorem put8_after (s : State) (h : s.Quiet) (p v) :
    ∃ m k l, s.put8 p v = { s with regs := regsAfter8 s p v, mem := m, waits := k, log := l } ∧
      ∀ a, ({s with mem := m} : State).byteAt a = bytesAfter8 s p v a := by
  cases p with
  | reg r => exact ⟨s.mem, s.waits, s.log, rfl, fun _ => rfl⟩
  | mem g off =>
    obtain ⟨n, l, e⟩ := s.writeMem8_eq h g off v
    refine ⟨n, 0, l, e, fun a => ?_⟩
    rw [← show _ = bytesAfter8 s (.mem g off) v a from byteAt_writeMem8_poke s h g off v a]; rw [e]; rfl

/-- A word operand written. -/
theorem put16_after (s : State) (h : s.Quiet) (p v) :
    ∃ m k l, s.put16 p v = { s with regs := regsAfter16 s p v, mem := m, waits := k, log := l } ∧
      ∀ a, ({s with mem := m} : State).byteAt a = bytesAfter16 s p v a := by
  cases p with
  | reg r => exact ⟨s.mem, s.waits, s.log, rfl, fun _ => rfl⟩
  | mem g off =>
    obtain ⟨n, l, e⟩ := s.writeMem16_eq h g off v
    refine ⟨n, 0, l, e, fun a => ?_⟩
    rw [← show _ = bytesAfter16 s (.mem g off) v a from byteAt_writeMem16_poke s h g off v a]; rw [e]; rfl

/-- A meaning that writes a byte operand. -/
theorem stores8_of_put (s : State) (h : s.Quiet) (i e v) (q : exec i s = .next (s.put8 (s.place e) v)) :
    Stores8 i s e v := by
  obtain ⟨m, k, l, e1, e2⟩ := put8_after s h (s.place e) v
  exact ⟨_, q, by rw [e1], fun a => by rw [e1]; exact e2 a, by rw [e1]; rfl⟩

/-- A meaning that writes a word operand. -/
theorem stores16_of_put (s : State) (h : s.Quiet) (i e v) (q : exec i s = .next (s.put16 (s.place e) v)) :
    Stores16 i s e v := by
  obtain ⟨m, k, l, e1, e2⟩ := put16_after s h (s.place e) v
  exact ⟨_, q, by rw [e1], fun a => by rw [e1]; exact e2 a, by rw [e1]; rfl⟩

/-- A meaning that loads a byte register. -/
theorem stores8_of_get (s : State) (h : s.Quiet) (i r p) (q : exec i s =
      .next ((s.get8 p).2.setReg8 r (s.get8 p).1)) :
    Stores8 i s (.reg r) (operand8 s p) := by
  obtain ⟨m, w, l, e1⟩ := get8_operand s h p
  rw [e1] at q
  exact ⟨_, q, rfl, fun a => rfl, rfl⟩

/-- A meaning that loads a word register. -/
theorem stores16_of_get (s : State) (h : s.Quiet) (i r p) (q : exec i s =
      .next ((s.get16 p).2.setReg16 r (s.get16 p).1)) :
    Stores16 i s (.reg r) (operand16 s p) := by
  obtain ⟨m, w, l, e1⟩ := get16_operand s h p
  rw [e1] at q
  exact ⟨_, q, rfl, fun a => rfl, rfl⟩

/-- A far pointer read. -/
theorem readFar_words (s : State) (h : s.Quiet) (m) :
    ∃ n l, s.readFar m = ((farOffset s m, farSelector s m), { s with floats := n, waits := 0, log := l }) := by
  unfold State.readFar
  obtain ⟨l, e⟩ := readMem16_loads s h (s.segOf m) (s.ea m)
  obtain ⟨l2, e2⟩ := readMem16_loads
    { s with floats := s.floats + spentWord s (s.segOf m) (s.ea m), waits := 0, log := l } h (s.segOf m) (s.ea m + 2)
  simp only [e, e2]
  exact ⟨_, l2, rfl⟩

/-- A push. -/
theorem push16_pokes (s : State) (h : s.Quiet) (v) :
    ∃ m l, s.push16 v = { withSp s (s.regs.sp - 2) with mem := m, waits := 0, log := l } ∧
      ∀ a, (s.push16 v).byteAt a = pokeWord s s.byteAt .ss (s.regs.sp - 2) v a := by
  obtain ⟨m, l, e⟩ := s.push16_eq h v
  exact ⟨m, l, e, fun a => State.byteAt_push16 s h v a⟩

/-- A pop. -/
theorem pop16_loads (s : State) (h : s.Quiet) :
    ∃ l, s.pop16 = (loadedWord s .ss s.regs.sp s.floats,
      { withSp s (s.regs.sp + 2) with floats := s.floats + spentWord s .ss s.regs.sp, waits := 0, log := l }) := by
  obtain ⟨l, e⟩ := readMem16_loads s h .ss (s.reg16 .sp)
  refine ⟨l, ?_⟩
  simp only [State.pop16, e]
  rfl

end Sys2Proof.Claims
end

