-- ==== Sys2Proof/Laws/Cycles.lean ====
section
/-! SUPPORT. What a bus cycle is where something does stand beside the CPU: a cycle gone through again, a task that has
stalled, a bus that is not the CPU's, RESET, and other masters against #LOCK. -/

namespace Sys2Proof.Machine

open Claims

variable (s : State) (pt : Point) (k : BusKind) (a : Option Addr) (g : Option SegReg) (f : State → Lanes × State)

/-! ### The points -/

theorem State.pass_of_stalled (h : s.flight.stalled.isSome = true) : s.pass pt = s := by simp [State.pass, h]

theorem State.pass_of_no_gaps (h : s.flight.gaps = []) : s.pass pt = s := by
  unfold State.pass
  rw [h]
  split <;> rfl

/-- Under #LOCK the event of another master does nothing to a CPU that has the bus. -/
theorem State.occur_foreign (e : Event) (he : Foreign e) (l : s.lockActive = true) (o : s.owner = .cpu)
    (c0 : s.ch0 ≠ .granted) (c1 : s.ch1 ≠ .granted) : s.occur e = s := by
  rcases he with rfl | ⟨op, rfl⟩ | ⟨ch, rfl⟩
  · simp [State.occur, State.grant, State.canCede, l]
  · simp [State.occur, State.masterCycle, o]
  · cases ch <;> simp [State.occur, State.release, c0, c1]

theorem State.occurAll_foreign (es : List Event) (he : ∀ e ∈ es, Foreign e) (l : s.lockActive = true)
    (o : s.owner = .cpu) (c0 : s.ch0 ≠ .granted) (c1 : s.ch1 ≠ .granted) : State.occurAll pt es s = s := by
  induction es with
  | nil => rfl
  | cons e es ih =>
    simp only [State.occurAll, State.occurAt, s.occur_foreign e (he e (by simp)) l o c0 c1, ite_self]
    exact ih fun e' h' => he e' (by simp [h'])

/-- Under #LOCK a point where only other masters act uses up its gap and changes nothing else. -/
theorem State.pass_foreign (he : ∀ es ∈ s.flight.gaps, ∀ e ∈ es, Foreign e) (l : s.lockActive = true)
    (o : s.owner = .cpu) (c0 : s.ch0 ≠ .granted) (c1 : s.ch1 ≠ .granted) (ha : s.flight.again = [])
    (hs : s.flight.stalled = none) :
    s.pass pt = { s with flight := { s.flight with gaps := s.flight.gaps.drop 1 } } := by
  have e (r : List (List Event)) (h : s.flight.gaps = r) :
      s = { s with flight := { s.flight with gaps := r } } := by subst h; rfl
  unfold State.pass
  rw [if_neg (by simp [ha, hs])]
  split
  · rename_i h
    exact (e [] h).trans (by rw [h, List.drop_nil])
  · rename_i es rest h
    rw [State.occurAll_foreign { s with flight := { s.flight with gaps := rest } } pt es (he es (by simp [h])) l o c0 c1,
      h, List.drop_one, List.tail_cons]

/-! ### The cycle -/

/-- A cycle that is over gives its data again. -/
theorem State.cycle_again (l : Lanes) (rest : List Lanes) (h : s.flight.again = l :: rest) :
    s.cycle pt k a g f = (l, { s with flight := { s.flight with again := rest } }) := by
  unfold State.cycle
  rw [h]

/-- A stalled task runs no cycle. -/
theorem State.cycle_of_stalled (h : s.flight.stalled.isSome = true) (ha : s.flight.again = []) :
    s.cycle pt k a g f = (.none, s) := by
  unfold State.cycle
  rw [ha]
  simp [s.pass_of_stalled pt h, h]

/-- A cycle without READY, or without the bus, is begun or not, moves nothing, and stalls its task. -/
theorem State.cycle_of_barred (hb : s.barred = true) (ha : s.flight.again = []) (hg : s.flight.gaps = [])
    (hs : s.flight.stalled = none) (hc : s.flight.cut = none) :
    s.cycle pt k a g f = (.none, (s.hang (s.busCycle k a g (f s).1)).stall pt) := by
  unfold State.cycle
  rw [ha]
  simp [s.pass_of_no_gaps pt hg, hs, hc, hb, State.runCycle]

/-- A cycle under #LOCK with other masters at its point is the cycle, but for the gap used up. -/
theorem State.cycle_foreign (he : ∀ es ∈ s.flight.gaps, ∀ e ∈ es, Foreign e) (l : s.lockActive = true)
    (o : s.owner = .cpu) (hh : s.hung = false) (c0 : s.ch0 ≠ .granted) (c1 : s.ch1 ≠ .granted)
    (ha : s.flight.again = []) (hs : s.flight.stalled = none) (hc : s.flight.cut = none) :
    s.cycle pt k a g f =
      ((f { s with flight := { s.flight with gaps := s.flight.gaps.drop 1 } }).1,
        (f { s with flight := { s.flight with gaps := s.flight.gaps.drop 1 } }).2.record
          (s.busCycle k a g (f { s with flight := { s.flight with gaps := s.flight.gaps.drop 1 } }).1)) := by
  unfold State.cycle
  rw [ha]
  simp only [s.pass_foreign pt he l o c0 c1 ha hs, hs, hc, State.runCycle, State.barred, hh, o]
  rfl

end Sys2Proof.Machine
end

