-- ==== Sys2Proof/Laws/Decode.lean ====
section
/-! SUPPORT. The pieces of decoding and encoding undo each other: fields of a ModRM byte, words, memory operands and
`r/m` operands. -/

namespace Sys2Proof

/-! ### Encoding numbers -/

@[simp] theorem Reg16.ofNum_num (r : Reg16) : Reg16.ofNum r.num = r := by cases r <;> rfl
@[simp] theorem Reg8.ofNum_num (r : Reg8) : Reg8.ofNum r.num = r := by cases r <;> rfl
@[simp] theorem SegReg.ofNum_num (r : SegReg) : SegReg.ofNum r.num = r := by cases r <;> rfl
@[simp] theorem Base.ofNum_num (b : Base) : Base.ofNum b.num = b := by cases b <;> rfl

@[simp] theorem Reg16.num_ofNum : ∀ n : BitVec 3, (Reg16.ofNum n).num = n := by decide
@[simp] theorem Reg8.num_ofNum : ∀ n : BitVec 3, (Reg8.ofNum n).num = n := by decide
@[simp] theorem SegReg.num_ofNum : ∀ n : BitVec 2, (SegReg.ofNum n).num = n := by decide
@[simp] theorem Base.num_ofNum : ∀ n : BitVec 3, (Base.ofNum n).num = n := by decide

/-! ### Fields -/

@[simp] theorem modField_modRM (md : BitVec 2) (reg rm : BitVec 3) : modField (modRM md reg rm) = md := by
  revert md reg rm; decide

@[simp] theorem regField_modRM (md : BitVec 2) (reg rm : BitVec 3) : regField (modRM md reg rm) = reg := by
  revert md reg rm; decide

@[simp] theorem rmField_modRM (md : BitVec 2) (reg rm : BitVec 3) : rmField (modRM md reg rm) = rm := by
  revert md reg rm; decide

/-- A byte is the ModRM byte of its fields. -/
theorem modRM_fields (m : Byte) : modRM (modField m) (regField m) (rmField m) = m := by
  revert m; decide

@[simp] theorem modField_modrm (reg : BitVec 3) (m : MemOp) : modField (m.modrm reg) ≠ 3#2 := by
  rcases m with a | ⟨b, d | d | d⟩ <;> simp [MemOp.modrm]

@[simp] theorem regField_modrm (reg : BitVec 3) (m : MemOp) : regField (m.modrm reg) = reg := by
  rcases m with a | ⟨b, d | d | d⟩ <;> simp [MemOp.modrm]

/-! ### Operands -/

@[simp] theorem takeWord_encWord (v : Word) (bs : List Byte) :
    takeWord (lowByte v :: highByte v :: bs) = some (v, bs) := by
  simp [takeWord]

/-- A memory operand reads back from its own bytes. -/
theorem takeMem_enc (reg : BitVec 3) (m : MemOp) (bs : List Byte) (h : m.wf = true) :
    takeMem (modField (m.modrm reg)) (rmField (m.modrm reg)) (m.tail ++ bs) = some (m, bs) := by
  rcases m with a | ⟨b, d | d | d⟩
  · simp [MemOp.modrm, MemOp.tail, takeMem]
  · have hb : b.num ≠ 6#3 := by cases b <;> first | decide | simp [MemOp.wf] at h
    simp [MemOp.modrm, MemOp.tail, takeMem, hb]
  · simp [MemOp.modrm, MemOp.tail, takeMem]
  · simp [MemOp.modrm, MemOp.tail, takeMem]

/-- The bytes of an `r/m` operand are a ModRM byte whose `reg` field is the one asked for, and the operand reads back
from them. -/
theorem encRM_split {ρ : Type} {num : ρ → BitVec 3} {ofNum : BitVec 3 → ρ} (inv : ∀ r, ofNum (num r) = r)
    (reg : BitVec 3) (e : RM ρ) (h : e.wf = true) :
    ∃ m t, encRM num reg e = m :: t ∧ regField m = reg ∧ ∀ bs, takeRM ofNum m (t ++ bs) = some (e, bs) := by
  cases e with
  | reg r => exact ⟨_, [], rfl, by simp, fun bs => by simp [takeRM, inv]⟩
  | mem m => exact ⟨_, _, rfl, by simp, fun bs => by simp [takeRM, takeMem_enc reg m bs h]⟩

/-- The bytes of an 8-bit `r/m` operand. -/
theorem encRM8 (reg : BitVec 3) (e : RM Reg8) (h : e.wf = true) :
    ∃ m t, encRM Reg8.num reg e = m :: t ∧ regField m = reg ∧ ∀ bs, takeRM Reg8.ofNum m (t ++ bs) = some (e, bs) :=
  encRM_split Reg8.ofNum_num reg e h

/-- The bytes of a 16-bit `r/m` operand. -/
theorem encRM16 (reg : BitVec 3) (e : RM Reg16) (h : e.wf = true) :
    ∃ m t, encRM Reg16.num reg e = m :: t ∧ regField m = reg ∧
      ∀ bs, takeRM Reg16.ofNum m (t ++ bs) = some (e, bs) :=
  encRM_split Reg16.ofNum_num reg e h

/-- Six bytes are enough for any memory operand and four more bytes are left. -/
theorem takeMem_enough (md : BitVec 2) (rm : BitVec 3) (a b : Byte) (bs : List Byte) :
    ∃ m r, takeMem md rm (a :: b :: bs) = some (m, r) ∧ bs.length ≤ r.length := by
  match md with
  | 0#2 =>
    by_cases h : rm = 6#3
    · exact ⟨.direct (wordOf a b), bs, by simp [takeMem, h, takeWord], le_refl _⟩
    · exact ⟨.based (Base.ofNum rm) .none, a :: b :: bs, by simp [takeMem, h], by simp; omega⟩
  | 1#2 => exact ⟨_, b :: bs, rfl, by simp⟩
  | 2#2 => exact ⟨_, bs, rfl, le_refl _⟩
  | 3#2 => exact ⟨_, bs, rfl, le_refl _⟩

end Sys2Proof
end

