-- ==== Sys2Proof/Laws/Opcodes.lean ====
section
/-! SUPPORT. The opcode map, one lemma an opcode byte (R273): what the decoder does after each. -/

namespace Sys2Proof

variable (bs : List Byte)

@[simp] theorem decodeOp_00 : decodeOp 0x00#8 bs = withModRM (rm8reg .addRm8R8) bs := rfl
@[simp] theorem decodeOp_01 : decodeOp 0x01#8 bs = withModRM (rm16reg .addRm16R16) bs := rfl
@[simp] theorem decodeOp_02 : decodeOp 0x02#8 bs = withModRM (rm8reg fun e r => .addR8Rm8 r e) bs := rfl
@[simp] theorem decodeOp_03 : decodeOp 0x03#8 bs = withModRM (rm16reg fun e r => .addR16Rm16 r e) bs := rfl
@[simp] theorem decodeOp_04 : decodeOp 0x04#8 bs = withByte .addAlImm8 bs := rfl
@[simp] theorem decodeOp_05 : decodeOp 0x05#8 bs = withWord .addAxImm16 bs := rfl
@[simp] theorem decodeOp_06 : decodeOp 0x06#8 bs = bare .pushEs bs := rfl
@[simp] theorem decodeOp_07 : decodeOp 0x07#8 bs = bare .popEs bs := rfl
@[simp] theorem decodeOp_08 : decodeOp 0x08#8 bs = withModRM (rm8reg .orRm8R8) bs := rfl
@[simp] theorem decodeOp_09 : decodeOp 0x09#8 bs = withModRM (rm16reg .orRm16R16) bs := rfl
@[simp] theorem decodeOp_0A : decodeOp 0x0A#8 bs = withModRM (rm8reg fun e r => .orR8Rm8 r e) bs := rfl
@[simp] theorem decodeOp_0B : decodeOp 0x0B#8 bs = withModRM (rm16reg fun e r => .orR16Rm16 r e) bs := rfl
@[simp] theorem decodeOp_0C : decodeOp 0x0C#8 bs = withByte .orAlImm8 bs := rfl
@[simp] theorem decodeOp_0D : decodeOp 0x0D#8 bs = withWord .orAxImm16 bs := rfl
@[simp] theorem decodeOp_0E : decodeOp 0x0E#8 bs = bare .pushCs bs := rfl
@[simp] theorem decodeOp_10 : decodeOp 0x10#8 bs = withModRM (rm8reg .adcRm8R8) bs := rfl
@[simp] theorem decodeOp_11 : decodeOp 0x11#8 bs = withModRM (rm16reg .adcRm16R16) bs := rfl
@[simp] theorem decodeOp_12 : decodeOp 0x12#8 bs = withModRM (rm8reg fun e r => .adcR8Rm8 r e) bs := rfl
@[simp] theorem decodeOp_13 : decodeOp 0x13#8 bs = withModRM (rm16reg fun e r => .adcR16Rm16 r e) bs := rfl
@[simp] theorem decodeOp_14 : decodeOp 0x14#8 bs = withByte .adcAlImm8 bs := rfl
@[simp] theorem decodeOp_15 : decodeOp 0x15#8 bs = withWord .adcAxImm16 bs := rfl
@[simp] theorem decodeOp_16 : decodeOp 0x16#8 bs = bare .pushSs bs := rfl
@[simp] theorem decodeOp_17 : decodeOp 0x17#8 bs = bare .popSs bs := rfl
@[simp] theorem decodeOp_18 : decodeOp 0x18#8 bs = withModRM (rm8reg .sbbRm8R8) bs := rfl
@[simp] theorem decodeOp_19 : decodeOp 0x19#8 bs = withModRM (rm16reg .sbbRm16R16) bs := rfl
@[simp] theorem decodeOp_1A : decodeOp 0x1A#8 bs = withModRM (rm8reg fun e r => .sbbR8Rm8 r e) bs := rfl
@[simp] theorem decodeOp_1B : decodeOp 0x1B#8 bs = withModRM (rm16reg fun e r => .sbbR16Rm16 r e) bs := rfl
@[simp] theorem decodeOp_1C : decodeOp 0x1C#8 bs = withByte .sbbAlImm8 bs := rfl
@[simp] theorem decodeOp_1D : decodeOp 0x1D#8 bs = withWord .sbbAxImm16 bs := rfl
@[simp] theorem decodeOp_1E : decodeOp 0x1E#8 bs = bare .pushDs bs := rfl
@[simp] theorem decodeOp_1F : decodeOp 0x1F#8 bs = bare .popDs bs := rfl
@[simp] theorem decodeOp_20 : decodeOp 0x20#8 bs = withModRM (rm8reg .andRm8R8) bs := rfl
@[simp] theorem decodeOp_21 : decodeOp 0x21#8 bs = withModRM (rm16reg .andRm16R16) bs := rfl
@[simp] theorem decodeOp_22 : decodeOp 0x22#8 bs = withModRM (rm8reg fun e r => .andR8Rm8 r e) bs := rfl
@[simp] theorem decodeOp_23 : decodeOp 0x23#8 bs = withModRM (rm16reg fun e r => .andR16Rm16 r e) bs := rfl
@[simp] theorem decodeOp_24 : decodeOp 0x24#8 bs = withByte .andAlImm8 bs := rfl
@[simp] theorem decodeOp_25 : decodeOp 0x25#8 bs = withWord .andAxImm16 bs := rfl
@[simp] theorem decodeOp_26 : decodeOp 0x26#8 bs = bare .esOverride bs := rfl
@[simp] theorem decodeOp_27 : decodeOp 0x27#8 bs = bare .daa bs := rfl
@[simp] theorem decodeOp_28 : decodeOp 0x28#8 bs = withModRM (rm8reg .subRm8R8) bs := rfl
@[simp] theorem decodeOp_29 : decodeOp 0x29#8 bs = withModRM (rm16reg .subRm16R16) bs := rfl
@[simp] theorem decodeOp_2A : decodeOp 0x2A#8 bs = withModRM (rm8reg fun e r => .subR8Rm8 r e) bs := rfl
@[simp] theorem decodeOp_2B : decodeOp 0x2B#8 bs = withModRM (rm16reg fun e r => .subR16Rm16 r e) bs := rfl
@[simp] theorem decodeOp_2C : decodeOp 0x2C#8 bs = withByte .subAlImm8 bs := rfl
@[simp] theorem decodeOp_2D : decodeOp 0x2D#8 bs = withWord .subAxImm16 bs := rfl
@[simp] theorem decodeOp_2E : decodeOp 0x2E#8 bs = bare .csOverride bs := rfl
@[simp] theorem decodeOp_2F : decodeOp 0x2F#8 bs = bare .das bs := rfl
@[simp] theorem decodeOp_30 : decodeOp 0x30#8 bs = withModRM (rm8reg .xorRm8R8) bs := rfl
@[simp] theorem decodeOp_31 : decodeOp 0x31#8 bs = withModRM (rm16reg .xorRm16R16) bs := rfl
@[simp] theorem decodeOp_32 : decodeOp 0x32#8 bs = withModRM (rm8reg fun e r => .xorR8Rm8 r e) bs := rfl
@[simp] theorem decodeOp_33 : decodeOp 0x33#8 bs = withModRM (rm16reg fun e r => .xorR16Rm16 r e) bs := rfl
@[simp] theorem decodeOp_34 : decodeOp 0x34#8 bs = withByte .xorAlImm8 bs := rfl
@[simp] theorem decodeOp_35 : decodeOp 0x35#8 bs = withWord .xorAxImm16 bs := rfl
@[simp] theorem decodeOp_36 : decodeOp 0x36#8 bs = bare .ssOverride bs := rfl
@[simp] theorem decodeOp_37 : decodeOp 0x37#8 bs = bare .aaa bs := rfl
@[simp] theorem decodeOp_38 : decodeOp 0x38#8 bs = withModRM (rm8reg .cmpRm8R8) bs := rfl
@[simp] theorem decodeOp_39 : decodeOp 0x39#8 bs = withModRM (rm16reg .cmpRm16R16) bs := rfl
@[simp] theorem decodeOp_3A : decodeOp 0x3A#8 bs = withModRM (rm8reg fun e r => .cmpR8Rm8 r e) bs := rfl
@[simp] theorem decodeOp_3B : decodeOp 0x3B#8 bs = withModRM (rm16reg fun e r => .cmpR16Rm16 r e) bs := rfl
@[simp] theorem decodeOp_3C : decodeOp 0x3C#8 bs = withByte .cmpAlImm8 bs := rfl
@[simp] theorem decodeOp_3D : decodeOp 0x3D#8 bs = withWord .cmpAxImm16 bs := rfl
@[simp] theorem decodeOp_3E : decodeOp 0x3E#8 bs = bare .dsOverride bs := rfl
@[simp] theorem decodeOp_3F : decodeOp 0x3F#8 bs = bare .aas bs := rfl
@[simp] theorem decodeOp_70 : decodeOp 0x70#8 bs = withByte .jo bs := rfl
@[simp] theorem decodeOp_71 : decodeOp 0x71#8 bs = withByte .jno bs := rfl
@[simp] theorem decodeOp_72 : decodeOp 0x72#8 bs = withByte .jb bs := rfl
@[simp] theorem decodeOp_73 : decodeOp 0x73#8 bs = withByte .jnb bs := rfl
@[simp] theorem decodeOp_74 : decodeOp 0x74#8 bs = withByte .je bs := rfl
@[simp] theorem decodeOp_75 : decodeOp 0x75#8 bs = withByte .jne bs := rfl
@[simp] theorem decodeOp_76 : decodeOp 0x76#8 bs = withByte .jbe bs := rfl
@[simp] theorem decodeOp_77 : decodeOp 0x77#8 bs = withByte .jnbe bs := rfl
@[simp] theorem decodeOp_78 : decodeOp 0x78#8 bs = withByte .js bs := rfl
@[simp] theorem decodeOp_79 : decodeOp 0x79#8 bs = withByte .jns bs := rfl
@[simp] theorem decodeOp_7A : decodeOp 0x7A#8 bs = withByte .jp bs := rfl
@[simp] theorem decodeOp_7B : decodeOp 0x7B#8 bs = withByte .jnp bs := rfl
@[simp] theorem decodeOp_7C : decodeOp 0x7C#8 bs = withByte .jl bs := rfl
@[simp] theorem decodeOp_7D : decodeOp 0x7D#8 bs = withByte .jnl bs := rfl
@[simp] theorem decodeOp_7E : decodeOp 0x7E#8 bs = withByte .jle bs := rfl
@[simp] theorem decodeOp_7F : decodeOp 0x7F#8 bs = withByte .jnle bs := rfl
@[simp] theorem decodeOp_80 : decodeOp 0x80#8 bs = withModRM group80 bs := rfl
@[simp] theorem decodeOp_81 : decodeOp 0x81#8 bs = withModRM group81 bs := rfl
@[simp] theorem decodeOp_82 : decodeOp 0x82#8 bs = withModRM group82 bs := rfl
@[simp] theorem decodeOp_83 : decodeOp 0x83#8 bs = withModRM group83 bs := rfl
@[simp] theorem decodeOp_84 : decodeOp 0x84#8 bs = withModRM (rm8reg .testRm8R8) bs := rfl
@[simp] theorem decodeOp_85 : decodeOp 0x85#8 bs = withModRM (rm16reg .testRm16R16) bs := rfl
@[simp] theorem decodeOp_86 : decodeOp 0x86#8 bs = withModRM (rm8reg fun e r => .xchgR8Rm8 r e) bs := rfl
@[simp] theorem decodeOp_87 : decodeOp 0x87#8 bs = withModRM (rm16reg fun e r => .xchgR16Rm16 r e) bs := rfl
@[simp] theorem decodeOp_88 : decodeOp 0x88#8 bs = withModRM (rm8reg .movRm8R8) bs := rfl
@[simp] theorem decodeOp_89 : decodeOp 0x89#8 bs = withModRM (rm16reg .movRm16R16) bs := rfl
@[simp] theorem decodeOp_8A : decodeOp 0x8A#8 bs = withModRM (rm8reg fun e r => .movR8Rm8 r e) bs := rfl
@[simp] theorem decodeOp_8B : decodeOp 0x8B#8 bs = withModRM (rm16reg fun e r => .movR16Rm16 r e) bs := rfl
@[simp] theorem decodeOp_8C : decodeOp 0x8C#8 bs = withModRM movSreg bs := rfl
@[simp] theorem decodeOp_8D : decodeOp 0x8D#8 bs = withModRM (memReg 0x8D#8 .lea) bs := rfl
@[simp] theorem decodeOp_8E : decodeOp 0x8E#8 bs = withModRM group8E bs := rfl
@[simp] theorem decodeOp_8F : decodeOp 0x8F#8 bs = withModRM group8F bs := rfl
@[simp] theorem decodeOp_90 : decodeOp 0x90#8 bs = bare .nop bs := rfl
@[simp] theorem decodeOp_98 : decodeOp 0x98#8 bs = bare .cbw bs := rfl
@[simp] theorem decodeOp_99 : decodeOp 0x99#8 bs = bare .cwd bs := rfl
@[simp] theorem decodeOp_9A : decodeOp 0x9A#8 bs = withPtr .callFar bs := rfl
@[simp] theorem decodeOp_9B : decodeOp 0x9B#8 bs = bare .wait bs := rfl
@[simp] theorem decodeOp_9C : decodeOp 0x9C#8 bs = bare .pushf bs := rfl
@[simp] theorem decodeOp_9D : decodeOp 0x9D#8 bs = bare .popf bs := rfl
@[simp] theorem decodeOp_9E : decodeOp 0x9E#8 bs = bare .sahf bs := rfl
@[simp] theorem decodeOp_9F : decodeOp 0x9F#8 bs = bare .lahf bs := rfl
@[simp] theorem decodeOp_A0 : decodeOp 0xA0#8 bs = withWord .movAlMoffs bs := rfl
@[simp] theorem decodeOp_A1 : decodeOp 0xA1#8 bs = withWord .movAxMoffs bs := rfl
@[simp] theorem decodeOp_A2 : decodeOp 0xA2#8 bs = withWord .movMoffsAl bs := rfl
@[simp] theorem decodeOp_A3 : decodeOp 0xA3#8 bs = withWord .movMoffsAx bs := rfl
@[simp] theorem decodeOp_A4 : decodeOp 0xA4#8 bs = bare .movsb bs := rfl
@[simp] theorem decodeOp_A5 : decodeOp 0xA5#8 bs = bare .movsw bs := rfl
@[simp] theorem decodeOp_A6 : decodeOp 0xA6#8 bs = bare .cmpsb bs := rfl
@[simp] theorem decodeOp_A7 : decodeOp 0xA7#8 bs = bare .cmpsw bs := rfl
@[simp] theorem decodeOp_A8 : decodeOp 0xA8#8 bs = withByte .testAlImm8 bs := rfl
@[simp] theorem decodeOp_A9 : decodeOp 0xA9#8 bs = withWord .testAxImm16 bs := rfl
@[simp] theorem decodeOp_AA : decodeOp 0xAA#8 bs = bare .stosb bs := rfl
@[simp] theorem decodeOp_AB : decodeOp 0xAB#8 bs = bare .stosw bs := rfl
@[simp] theorem decodeOp_AC : decodeOp 0xAC#8 bs = bare .lodsb bs := rfl
@[simp] theorem decodeOp_AD : decodeOp 0xAD#8 bs = bare .lodsw bs := rfl
@[simp] theorem decodeOp_AE : decodeOp 0xAE#8 bs = bare .scasb bs := rfl
@[simp] theorem decodeOp_AF : decodeOp 0xAF#8 bs = bare .scasw bs := rfl
@[simp] theorem decodeOp_C2 : decodeOp 0xC2#8 bs = withWord .retNearImm16 bs := rfl
@[simp] theorem decodeOp_C3 : decodeOp 0xC3#8 bs = bare .retNear bs := rfl
@[simp] theorem decodeOp_C4 : decodeOp 0xC4#8 bs = withModRM (memReg 0xC4#8 .les) bs := rfl
@[simp] theorem decodeOp_C5 : decodeOp 0xC5#8 bs = withModRM (memReg 0xC5#8 .lds) bs := rfl
@[simp] theorem decodeOp_C6 : decodeOp 0xC6#8 bs = withModRM groupC6 bs := rfl
@[simp] theorem decodeOp_C7 : decodeOp 0xC7#8 bs = withModRM groupC7 bs := rfl
@[simp] theorem decodeOp_CA : decodeOp 0xCA#8 bs = withWord .retFarImm16 bs := rfl
@[simp] theorem decodeOp_CB : decodeOp 0xCB#8 bs = bare .retFar bs := rfl
@[simp] theorem decodeOp_CC : decodeOp 0xCC#8 bs = bare .int3 bs := rfl
@[simp] theorem decodeOp_CD : decodeOp 0xCD#8 bs = withByte .intN bs := rfl
@[simp] theorem decodeOp_CE : decodeOp 0xCE#8 bs = bare .into bs := rfl
@[simp] theorem decodeOp_CF : decodeOp 0xCF#8 bs = bare .iret bs := rfl
@[simp] theorem decodeOp_D0 : decodeOp 0xD0#8 bs = withModRM groupD0 bs := rfl
@[simp] theorem decodeOp_D1 : decodeOp 0xD1#8 bs = withModRM groupD1 bs := rfl
@[simp] theorem decodeOp_D2 : decodeOp 0xD2#8 bs = withModRM groupD2 bs := rfl
@[simp] theorem decodeOp_D3 : decodeOp 0xD3#8 bs = withModRM groupD3 bs := rfl
@[simp] theorem decodeOp_D4 : decodeOp 0xD4#8 bs = withModRM (withTen 0xD4#8 .aam) bs := rfl
@[simp] theorem decodeOp_D5 : decodeOp 0xD5#8 bs = withModRM (withTen 0xD5#8 .aad) bs := rfl
@[simp] theorem decodeOp_D7 : decodeOp 0xD7#8 bs = bare .xlat bs := rfl
@[simp] theorem decodeOp_E0 : decodeOp 0xE0#8 bs = withByte .loopne bs := rfl
@[simp] theorem decodeOp_E1 : decodeOp 0xE1#8 bs = withByte .loope bs := rfl
@[simp] theorem decodeOp_E2 : decodeOp 0xE2#8 bs = withByte .loop bs := rfl
@[simp] theorem decodeOp_E3 : decodeOp 0xE3#8 bs = withByte .jcxz bs := rfl
@[simp] theorem decodeOp_E4 : decodeOp 0xE4#8 bs = withByte .inAlImm8 bs := rfl
@[simp] theorem decodeOp_E5 : decodeOp 0xE5#8 bs = withByte .inAxImm8 bs := rfl
@[simp] theorem decodeOp_E6 : decodeOp 0xE6#8 bs = withByte .outImm8Al bs := rfl
@[simp] theorem decodeOp_E7 : decodeOp 0xE7#8 bs = withByte .outImm8Ax bs := rfl
@[simp] theorem decodeOp_E8 : decodeOp 0xE8#8 bs = withWord .callRel16 bs := rfl
@[simp] theorem decodeOp_E9 : decodeOp 0xE9#8 bs = withWord .jmpRel16 bs := rfl
@[simp] theorem decodeOp_EA : decodeOp 0xEA#8 bs = withPtr .jmpFar bs := rfl
@[simp] theorem decodeOp_EB : decodeOp 0xEB#8 bs = withByte .jmpRel8 bs := rfl
@[simp] theorem decodeOp_EC : decodeOp 0xEC#8 bs = bare .inAlDx bs := rfl
@[simp] theorem decodeOp_ED : decodeOp 0xED#8 bs = bare .inAxDx bs := rfl
@[simp] theorem decodeOp_EE : decodeOp 0xEE#8 bs = bare .outDxAl bs := rfl
@[simp] theorem decodeOp_EF : decodeOp 0xEF#8 bs = bare .outDxAx bs := rfl
@[simp] theorem decodeOp_F0 : decodeOp 0xF0#8 bs = bare .lock bs := rfl
@[simp] theorem decodeOp_F2 : decodeOp 0xF2#8 bs = bare .repne bs := rfl
@[simp] theorem decodeOp_F3 : decodeOp 0xF3#8 bs = bare .rep bs := rfl
@[simp] theorem decodeOp_F4 : decodeOp 0xF4#8 bs = bare .hlt bs := rfl
@[simp] theorem decodeOp_F5 : decodeOp 0xF5#8 bs = bare .cmc bs := rfl
@[simp] theorem decodeOp_F6 : decodeOp 0xF6#8 bs = withModRM groupF6 bs := rfl
@[simp] theorem decodeOp_F7 : decodeOp 0xF7#8 bs = withModRM groupF7 bs := rfl
@[simp] theorem decodeOp_F8 : decodeOp 0xF8#8 bs = bare .clc bs := rfl
@[simp] theorem decodeOp_F9 : decodeOp 0xF9#8 bs = bare .stc bs := rfl
@[simp] theorem decodeOp_FA : decodeOp 0xFA#8 bs = bare .cli bs := rfl
@[simp] theorem decodeOp_FB : decodeOp 0xFB#8 bs = bare .sti bs := rfl
@[simp] theorem decodeOp_FC : decodeOp 0xFC#8 bs = bare .cld bs := rfl
@[simp] theorem decodeOp_FD : decodeOp 0xFD#8 bs = bare .std bs := rfl
@[simp] theorem decodeOp_FE : decodeOp 0xFE#8 bs = withModRM groupFE bs := rfl
@[simp] theorem decodeOp_FF : decodeOp 0xFF#8 bs = withModRM groupFF bs := rfl

@[simp] theorem decodeOp_incR16 (r : Reg16) :
    decodeOp (opReg 0x08#5 r.num) bs = bare (.incR16 r) bs := by cases r <;> rfl
@[simp] theorem decodeOp_decR16 (r : Reg16) :
    decodeOp (opReg 0x09#5 r.num) bs = bare (.decR16 r) bs := by cases r <;> rfl
@[simp] theorem decodeOp_pushR16 (r : Reg16) :
    decodeOp (opReg 0x0A#5 r.num) bs = bare (.pushR16 r) bs := by cases r <;> rfl
@[simp] theorem decodeOp_popR16 (r : Reg16) :
    decodeOp (opReg 0x0B#5 r.num) bs = bare (.popR16 r) bs := by cases r <;> rfl
@[simp] theorem decodeOp_xchgAxR16 (r : Reg16) (h : r ≠ .ax) :
    decodeOp (opReg 0x12#5 r.num) bs = bare (.xchgAxR16 r) bs := by cases r <;> first | rfl | exact absurd rfl h
@[simp] theorem decodeOp_movR8Imm8 (r : Reg8) :
    decodeOp (opReg 0x16#5 r.num) bs = withByte (.movR8Imm8 r) bs := by cases r <;> rfl
@[simp] theorem decodeOp_movR16Imm16 (r : Reg16) :
    decodeOp (opReg 0x17#5 r.num) bs = withWord (.movR16Imm16 r) bs := by cases r <;> rfl

end Sys2Proof
end

