-- ==== Sys2Proof/Laws/PerInstr.lean ====
section
/-! SUPPORT. Statements about every instruction as syntax, one lemma a constructor: an instruction is one to six bytes
long (R260). -/

namespace Sys2Proof.Laws

/-- The bytes of an `r/m` operand are one to three. -/
theorem encRM_length {ρ : Type} (num : ρ → BitVec 3) (reg : BitVec 3) (e : RM ρ) :
    1 ≤ (encRM num reg e).length ∧ (encRM num reg e).length ≤ 3 := by
  rcases e with r | a | ⟨b, d | d | d⟩ <;> simp [encRM, encMem, MemOp.tail]

/-- The bytes of a memory operand are one to three. -/
theorem encMem_length (reg : BitVec 3) (m : MemOp) :
    1 ≤ (encMem reg m).length ∧ (encMem reg m).length ≤ 3 := by
  rcases m with a | ⟨b, d | d | d⟩ <;> simp [encMem, MemOp.tail]

/-- An instruction is one to six bytes long (R260). -/
def Short.Statement (i : Instr) : Prop := 1 ≤ (encode i).length ∧ (encode i).length ≤ 6

namespace Short

theorem of_list {i : Instr} (n : Nat) (h : (encode i).length = n) (a : 1 ≤ n) (b : n ≤ 6) : Statement i :=
  ⟨h ▸ a, h ▸ b⟩

theorem of_rm {ρ : Type} {i : Instr} {op : Byte} {num : ρ → BitVec 3} {reg : BitVec 3} {e : RM ρ}
    (h : encode i = op :: encRM num reg e) : Statement i := by
  have := encRM_length num reg e
  rw [Statement, h, List.length_cons]
  omega

theorem of_rm_then {ρ : Type} {i : Instr} {op : Byte} {num : ρ → BitVec 3} {reg : BitVec 3} {e : RM ρ}
    {t : List Byte} (h : encode i = op :: (encRM num reg e ++ t)) (ht : t.length ≤ 2) : Statement i := by
  have := encRM_length num reg e
  rw [Statement, h, List.length_cons, List.length_append]
  omega

theorem of_mem {i : Instr} {op : Byte} {reg : BitVec 3} {m : MemOp} (h : encode i = op :: encMem reg m) :
    Statement i := by
  have := encMem_length reg m
  rw [Statement, h, List.length_cons]
  omega

theorem addRm8R8 (e : RM Reg8) (r : Reg8) : Statement (.addRm8R8 e r) := of_rm rfl
theorem addRm16R16 (e : RM Reg16) (r : Reg16) : Statement (.addRm16R16 e r) := of_rm rfl
theorem addR8Rm8 (r : Reg8) (e : RM Reg8) : Statement (.addR8Rm8 r e) := of_rm rfl
theorem addR16Rm16 (r : Reg16) (e : RM Reg16) : Statement (.addR16Rm16 r e) := of_rm rfl
theorem addAlImm8 (v : Byte) : Statement (.addAlImm8 v) := of_list 2 rfl (by decide) (by decide)
theorem addAxImm16 (v : Word) : Statement (.addAxImm16 v) := of_list 3 rfl (by decide) (by decide)
theorem orRm8R8 (e : RM Reg8) (r : Reg8) : Statement (.orRm8R8 e r) := of_rm rfl
theorem orRm16R16 (e : RM Reg16) (r : Reg16) : Statement (.orRm16R16 e r) := of_rm rfl
theorem orR8Rm8 (r : Reg8) (e : RM Reg8) : Statement (.orR8Rm8 r e) := of_rm rfl
theorem orR16Rm16 (r : Reg16) (e : RM Reg16) : Statement (.orR16Rm16 r e) := of_rm rfl
theorem orAlImm8 (v : Byte) : Statement (.orAlImm8 v) := of_list 2 rfl (by decide) (by decide)
theorem orAxImm16 (v : Word) : Statement (.orAxImm16 v) := of_list 3 rfl (by decide) (by decide)
theorem adcRm8R8 (e : RM Reg8) (r : Reg8) : Statement (.adcRm8R8 e r) := of_rm rfl
theorem adcRm16R16 (e : RM Reg16) (r : Reg16) : Statement (.adcRm16R16 e r) := of_rm rfl
theorem adcR8Rm8 (r : Reg8) (e : RM Reg8) : Statement (.adcR8Rm8 r e) := of_rm rfl
theorem adcR16Rm16 (r : Reg16) (e : RM Reg16) : Statement (.adcR16Rm16 r e) := of_rm rfl
theorem adcAlImm8 (v : Byte) : Statement (.adcAlImm8 v) := of_list 2 rfl (by decide) (by decide)
theorem adcAxImm16 (v : Word) : Statement (.adcAxImm16 v) := of_list 3 rfl (by decide) (by decide)
theorem sbbRm8R8 (e : RM Reg8) (r : Reg8) : Statement (.sbbRm8R8 e r) := of_rm rfl
theorem sbbRm16R16 (e : RM Reg16) (r : Reg16) : Statement (.sbbRm16R16 e r) := of_rm rfl
theorem sbbR8Rm8 (r : Reg8) (e : RM Reg8) : Statement (.sbbR8Rm8 r e) := of_rm rfl
theorem sbbR16Rm16 (r : Reg16) (e : RM Reg16) : Statement (.sbbR16Rm16 r e) := of_rm rfl
theorem sbbAlImm8 (v : Byte) : Statement (.sbbAlImm8 v) := of_list 2 rfl (by decide) (by decide)
theorem sbbAxImm16 (v : Word) : Statement (.sbbAxImm16 v) := of_list 3 rfl (by decide) (by decide)
theorem andRm8R8 (e : RM Reg8) (r : Reg8) : Statement (.andRm8R8 e r) := of_rm rfl
theorem andRm16R16 (e : RM Reg16) (r : Reg16) : Statement (.andRm16R16 e r) := of_rm rfl
theorem andR8Rm8 (r : Reg8) (e : RM Reg8) : Statement (.andR8Rm8 r e) := of_rm rfl
theorem andR16Rm16 (r : Reg16) (e : RM Reg16) : Statement (.andR16Rm16 r e) := of_rm rfl
theorem andAlImm8 (v : Byte) : Statement (.andAlImm8 v) := of_list 2 rfl (by decide) (by decide)
theorem andAxImm16 (v : Word) : Statement (.andAxImm16 v) := of_list 3 rfl (by decide) (by decide)
theorem subRm8R8 (e : RM Reg8) (r : Reg8) : Statement (.subRm8R8 e r) := of_rm rfl
theorem subRm16R16 (e : RM Reg16) (r : Reg16) : Statement (.subRm16R16 e r) := of_rm rfl
theorem subR8Rm8 (r : Reg8) (e : RM Reg8) : Statement (.subR8Rm8 r e) := of_rm rfl
theorem subR16Rm16 (r : Reg16) (e : RM Reg16) : Statement (.subR16Rm16 r e) := of_rm rfl
theorem subAlImm8 (v : Byte) : Statement (.subAlImm8 v) := of_list 2 rfl (by decide) (by decide)
theorem subAxImm16 (v : Word) : Statement (.subAxImm16 v) := of_list 3 rfl (by decide) (by decide)
theorem xorRm8R8 (e : RM Reg8) (r : Reg8) : Statement (.xorRm8R8 e r) := of_rm rfl
theorem xorRm16R16 (e : RM Reg16) (r : Reg16) : Statement (.xorRm16R16 e r) := of_rm rfl
theorem xorR8Rm8 (r : Reg8) (e : RM Reg8) : Statement (.xorR8Rm8 r e) := of_rm rfl
theorem xorR16Rm16 (r : Reg16) (e : RM Reg16) : Statement (.xorR16Rm16 r e) := of_rm rfl
theorem xorAlImm8 (v : Byte) : Statement (.xorAlImm8 v) := of_list 2 rfl (by decide) (by decide)
theorem xorAxImm16 (v : Word) : Statement (.xorAxImm16 v) := of_list 3 rfl (by decide) (by decide)
theorem cmpRm8R8 (e : RM Reg8) (r : Reg8) : Statement (.cmpRm8R8 e r) := of_rm rfl
theorem cmpRm16R16 (e : RM Reg16) (r : Reg16) : Statement (.cmpRm16R16 e r) := of_rm rfl
theorem cmpR8Rm8 (r : Reg8) (e : RM Reg8) : Statement (.cmpR8Rm8 r e) := of_rm rfl
theorem cmpR16Rm16 (r : Reg16) (e : RM Reg16) : Statement (.cmpR16Rm16 r e) := of_rm rfl
theorem cmpAlImm8 (v : Byte) : Statement (.cmpAlImm8 v) := of_list 2 rfl (by decide) (by decide)
theorem cmpAxImm16 (v : Word) : Statement (.cmpAxImm16 v) := of_list 3 rfl (by decide) (by decide)
theorem addRm8Imm8 (e : RM Reg8) (v : Byte) : Statement (.addRm8Imm8 e v) := of_rm_then (t := [v]) rfl (by simp)
theorem orRm8Imm8 (e : RM Reg8) (v : Byte) : Statement (.orRm8Imm8 e v) := of_rm_then (t := [v]) rfl (by simp)
theorem adcRm8Imm8 (e : RM Reg8) (v : Byte) : Statement (.adcRm8Imm8 e v) := of_rm_then (t := [v]) rfl (by simp)
theorem sbbRm8Imm8 (e : RM Reg8) (v : Byte) : Statement (.sbbRm8Imm8 e v) := of_rm_then (t := [v]) rfl (by simp)
theorem andRm8Imm8 (e : RM Reg8) (v : Byte) : Statement (.andRm8Imm8 e v) := of_rm_then (t := [v]) rfl (by simp)
theorem subRm8Imm8 (e : RM Reg8) (v : Byte) : Statement (.subRm8Imm8 e v) := of_rm_then (t := [v]) rfl (by simp)
theorem xorRm8Imm8 (e : RM Reg8) (v : Byte) : Statement (.xorRm8Imm8 e v) := of_rm_then (t := [v]) rfl (by simp)
theorem cmpRm8Imm8 (e : RM Reg8) (v : Byte) : Statement (.cmpRm8Imm8 e v) := of_rm_then (t := [v]) rfl (by simp)
theorem addRm16Imm16 (e : RM Reg16) (v : Word) :
    Statement (.addRm16Imm16 e v) := of_rm_then (t := encWord v) rfl (by simp [encWord])
theorem orRm16Imm16 (e : RM Reg16) (v : Word) :
    Statement (.orRm16Imm16 e v) := of_rm_then (t := encWord v) rfl (by simp [encWord])
theorem adcRm16Imm16 (e : RM Reg16) (v : Word) :
    Statement (.adcRm16Imm16 e v) := of_rm_then (t := encWord v) rfl (by simp [encWord])
theorem sbbRm16Imm16 (e : RM Reg16) (v : Word) :
    Statement (.sbbRm16Imm16 e v) := of_rm_then (t := encWord v) rfl (by simp [encWord])
theorem andRm16Imm16 (e : RM Reg16) (v : Word) :
    Statement (.andRm16Imm16 e v) := of_rm_then (t := encWord v) rfl (by simp [encWord])
theorem subRm16Imm16 (e : RM Reg16) (v : Word) :
    Statement (.subRm16Imm16 e v) := of_rm_then (t := encWord v) rfl (by simp [encWord])
theorem xorRm16Imm16 (e : RM Reg16) (v : Word) :
    Statement (.xorRm16Imm16 e v) := of_rm_then (t := encWord v) rfl (by simp [encWord])
theorem cmpRm16Imm16 (e : RM Reg16) (v : Word) :
    Statement (.cmpRm16Imm16 e v) := of_rm_then (t := encWord v) rfl (by simp [encWord])
theorem addRm8Imm8Alt (e : RM Reg8) (v : Byte) : Statement (.addRm8Imm8Alt e v) := of_rm_then (t := [v]) rfl (by simp)
theorem adcRm8Imm8Alt (e : RM Reg8) (v : Byte) : Statement (.adcRm8Imm8Alt e v) := of_rm_then (t := [v]) rfl (by simp)
theorem sbbRm8Imm8Alt (e : RM Reg8) (v : Byte) : Statement (.sbbRm8Imm8Alt e v) := of_rm_then (t := [v]) rfl (by simp)
theorem subRm8Imm8Alt (e : RM Reg8) (v : Byte) : Statement (.subRm8Imm8Alt e v) := of_rm_then (t := [v]) rfl (by simp)
theorem cmpRm8Imm8Alt (e : RM Reg8) (v : Byte) : Statement (.cmpRm8Imm8Alt e v) := of_rm_then (t := [v]) rfl (by simp)
theorem addRm16Simm8 (e : RM Reg16) (v : Byte) : Statement (.addRm16Simm8 e v) := of_rm_then (t := [v]) rfl (by simp)
theorem adcRm16Simm8 (e : RM Reg16) (v : Byte) : Statement (.adcRm16Simm8 e v) := of_rm_then (t := [v]) rfl (by simp)
theorem sbbRm16Simm8 (e : RM Reg16) (v : Byte) : Statement (.sbbRm16Simm8 e v) := of_rm_then (t := [v]) rfl (by simp)
theorem subRm16Simm8 (e : RM Reg16) (v : Byte) : Statement (.subRm16Simm8 e v) := of_rm_then (t := [v]) rfl (by simp)
theorem cmpRm16Simm8 (e : RM Reg16) (v : Byte) : Statement (.cmpRm16Simm8 e v) := of_rm_then (t := [v]) rfl (by simp)
theorem pushEs : Statement (.pushEs) := of_list 1 rfl (by decide) (by decide)
theorem pushCs : Statement (.pushCs) := of_list 1 rfl (by decide) (by decide)
theorem pushSs : Statement (.pushSs) := of_list 1 rfl (by decide) (by decide)
theorem pushDs : Statement (.pushDs) := of_list 1 rfl (by decide) (by decide)
theorem popEs : Statement (.popEs) := of_list 1 rfl (by decide) (by decide)
theorem popSs : Statement (.popSs) := of_list 1 rfl (by decide) (by decide)
theorem popDs : Statement (.popDs) := of_list 1 rfl (by decide) (by decide)
theorem pushR16 (r : Reg16) : Statement (.pushR16 r) := of_list 1 rfl (by decide) (by decide)
theorem pushRm16 (e : RM Reg16) : Statement (.pushRm16 e) := of_rm rfl
theorem popR16 (r : Reg16) : Statement (.popR16 r) := of_list 1 rfl (by decide) (by decide)
theorem popRm16 (e : RM Reg16) : Statement (.popRm16 e) := of_rm rfl
theorem movRm8R8 (e : RM Reg8) (r : Reg8) : Statement (.movRm8R8 e r) := of_rm rfl
theorem movRm16R16 (e : RM Reg16) (r : Reg16) : Statement (.movRm16R16 e r) := of_rm rfl
theorem movR8Rm8 (r : Reg8) (e : RM Reg8) : Statement (.movR8Rm8 r e) := of_rm rfl
theorem movR16Rm16 (r : Reg16) (e : RM Reg16) : Statement (.movR16Rm16 r e) := of_rm rfl
theorem movRm16Sreg (e : RM Reg16) (g : SegReg) : Statement (.movRm16Sreg e g) := of_rm rfl
theorem movEsRm16 (e : RM Reg16) : Statement (.movEsRm16 e) := of_rm rfl
theorem movSsRm16 (e : RM Reg16) : Statement (.movSsRm16 e) := of_rm rfl
theorem movDsRm16 (e : RM Reg16) : Statement (.movDsRm16 e) := of_rm rfl
theorem movAlMoffs (a : Word) : Statement (.movAlMoffs a) := of_list 3 rfl (by decide) (by decide)
theorem movAxMoffs (a : Word) : Statement (.movAxMoffs a) := of_list 3 rfl (by decide) (by decide)
theorem movMoffsAl (a : Word) : Statement (.movMoffsAl a) := of_list 3 rfl (by decide) (by decide)
theorem movMoffsAx (a : Word) : Statement (.movMoffsAx a) := of_list 3 rfl (by decide) (by decide)
theorem movR8Imm8 (r : Reg8) (v : Byte) : Statement (.movR8Imm8 r v) := of_list 2 rfl (by decide) (by decide)
theorem movR16Imm16 (r : Reg16) (v : Word) : Statement (.movR16Imm16 r v) := of_list 3 rfl (by decide) (by decide)
theorem movRm8Imm8 (e : RM Reg8) (v : Byte) : Statement (.movRm8Imm8 e v) := of_rm_then (t := [v]) rfl (by simp)
theorem movRm16Imm16 (e : RM Reg16) (v : Word) :
    Statement (.movRm16Imm16 e v) := of_rm_then (t := encWord v) rfl (by simp [encWord])
theorem xchgR8Rm8 (r : Reg8) (e : RM Reg8) : Statement (.xchgR8Rm8 r e) := of_rm rfl
theorem xchgR16Rm16 (r : Reg16) (e : RM Reg16) : Statement (.xchgR16Rm16 r e) := of_rm rfl
theorem xchgAxR16 (r : Reg16) : Statement (.xchgAxR16 r) := of_list 1 rfl (by decide) (by decide)
theorem xlat : Statement (.xlat) := of_list 1 rfl (by decide) (by decide)
theorem lea (r : Reg16) (m : MemOp) : Statement (.lea r m) := of_mem rfl
theorem lds (r : Reg16) (m : MemOp) : Statement (.lds r m) := of_mem rfl
theorem les (r : Reg16) (m : MemOp) : Statement (.les r m) := of_mem rfl
theorem lahf : Statement (.lahf) := of_list 1 rfl (by decide) (by decide)
theorem sahf : Statement (.sahf) := of_list 1 rfl (by decide) (by decide)
theorem pushf : Statement (.pushf) := of_list 1 rfl (by decide) (by decide)
theorem popf : Statement (.popf) := of_list 1 rfl (by decide) (by decide)
theorem inAlImm8 (p : Byte) : Statement (.inAlImm8 p) := of_list 2 rfl (by decide) (by decide)
theorem inAxImm8 (p : Byte) : Statement (.inAxImm8 p) := of_list 2 rfl (by decide) (by decide)
theorem inAlDx : Statement (.inAlDx) := of_list 1 rfl (by decide) (by decide)
theorem inAxDx : Statement (.inAxDx) := of_list 1 rfl (by decide) (by decide)
theorem outImm8Al (p : Byte) : Statement (.outImm8Al p) := of_list 2 rfl (by decide) (by decide)
theorem outImm8Ax (p : Byte) : Statement (.outImm8Ax p) := of_list 2 rfl (by decide) (by decide)
theorem outDxAl : Statement (.outDxAl) := of_list 1 rfl (by decide) (by decide)
theorem outDxAx : Statement (.outDxAx) := of_list 1 rfl (by decide) (by decide)
theorem incR16 (r : Reg16) : Statement (.incR16 r) := of_list 1 rfl (by decide) (by decide)
theorem incRm8 (e : RM Reg8) : Statement (.incRm8 e) := of_rm rfl
theorem incRm16 (e : RM Reg16) : Statement (.incRm16 e) := of_rm rfl
theorem decR16 (r : Reg16) : Statement (.decR16 r) := of_list 1 rfl (by decide) (by decide)
theorem decRm8 (e : RM Reg8) : Statement (.decRm8 e) := of_rm rfl
theorem decRm16 (e : RM Reg16) : Statement (.decRm16 e) := of_rm rfl
theorem aaa : Statement (.aaa) := of_list 1 rfl (by decide) (by decide)
theorem daa : Statement (.daa) := of_list 1 rfl (by decide) (by decide)
theorem aas : Statement (.aas) := of_list 1 rfl (by decide) (by decide)
theorem das : Statement (.das) := of_list 1 rfl (by decide) (by decide)
theorem aam : Statement (.aam) := of_list 2 rfl (by decide) (by decide)
theorem aad : Statement (.aad) := of_list 2 rfl (by decide) (by decide)
theorem cbw : Statement (.cbw) := of_list 1 rfl (by decide) (by decide)
theorem cwd : Statement (.cwd) := of_list 1 rfl (by decide) (by decide)
theorem negRm8 (e : RM Reg8) : Statement (.negRm8 e) := of_rm rfl
theorem negRm16 (e : RM Reg16) : Statement (.negRm16 e) := of_rm rfl
theorem mulRm8 (e : RM Reg8) : Statement (.mulRm8 e) := of_rm rfl
theorem mulRm16 (e : RM Reg16) : Statement (.mulRm16 e) := of_rm rfl
theorem imulRm8 (e : RM Reg8) : Statement (.imulRm8 e) := of_rm rfl
theorem imulRm16 (e : RM Reg16) : Statement (.imulRm16 e) := of_rm rfl
theorem divRm8 (e : RM Reg8) : Statement (.divRm8 e) := of_rm rfl
theorem divRm16 (e : RM Reg16) : Statement (.divRm16 e) := of_rm rfl
theorem idivRm8 (e : RM Reg8) : Statement (.idivRm8 e) := of_rm rfl
theorem idivRm16 (e : RM Reg16) : Statement (.idivRm16 e) := of_rm rfl
theorem notRm8 (e : RM Reg8) : Statement (.notRm8 e) := of_rm rfl
theorem notRm16 (e : RM Reg16) : Statement (.notRm16 e) := of_rm rfl
theorem testRm8R8 (e : RM Reg8) (r : Reg8) : Statement (.testRm8R8 e r) := of_rm rfl
theorem testRm16R16 (e : RM Reg16) (r : Reg16) : Statement (.testRm16R16 e r) := of_rm rfl
theorem testAlImm8 (v : Byte) : Statement (.testAlImm8 v) := of_list 2 rfl (by decide) (by decide)
theorem testAxImm16 (v : Word) : Statement (.testAxImm16 v) := of_list 3 rfl (by decide) (by decide)
theorem testRm8Imm8 (e : RM Reg8) (v : Byte) : Statement (.testRm8Imm8 e v) := of_rm_then (t := [v]) rfl (by simp)
theorem testRm16Imm16 (e : RM Reg16) (v : Word) :
    Statement (.testRm16Imm16 e v) := of_rm_then (t := encWord v) rfl (by simp [encWord])
theorem rolRm8One (e : RM Reg8) : Statement (.rolRm8One e) := of_rm rfl
theorem rolRm16One (e : RM Reg16) : Statement (.rolRm16One e) := of_rm rfl
theorem rolRm8Cl (e : RM Reg8) : Statement (.rolRm8Cl e) := of_rm rfl
theorem rolRm16Cl (e : RM Reg16) : Statement (.rolRm16Cl e) := of_rm rfl
theorem rorRm8One (e : RM Reg8) : Statement (.rorRm8One e) := of_rm rfl
theorem rorRm16One (e : RM Reg16) : Statement (.rorRm16One e) := of_rm rfl
theorem rorRm8Cl (e : RM Reg8) : Statement (.rorRm8Cl e) := of_rm rfl
theorem rorRm16Cl (e : RM Reg16) : Statement (.rorRm16Cl e) := of_rm rfl
theorem rclRm8One (e : RM Reg8) : Statement (.rclRm8One e) := of_rm rfl
theorem rclRm16One (e : RM Reg16) : Statement (.rclRm16One e) := of_rm rfl
theorem rclRm8Cl (e : RM Reg8) : Statement (.rclRm8Cl e) := of_rm rfl
theorem rclRm16Cl (e : RM Reg16) : Statement (.rclRm16Cl e) := of_rm rfl
theorem rcrRm8One (e : RM Reg8) : Statement (.rcrRm8One e) := of_rm rfl
theorem rcrRm16One (e : RM Reg16) : Statement (.rcrRm16One e) := of_rm rfl
theorem rcrRm8Cl (e : RM Reg8) : Statement (.rcrRm8Cl e) := of_rm rfl
theorem rcrRm16Cl (e : RM Reg16) : Statement (.rcrRm16Cl e) := of_rm rfl
theorem shlRm8One (e : RM Reg8) : Statement (.shlRm8One e) := of_rm rfl
theorem shlRm16One (e : RM Reg16) : Statement (.shlRm16One e) := of_rm rfl
theorem shlRm8Cl (e : RM Reg8) : Statement (.shlRm8Cl e) := of_rm rfl
theorem shlRm16Cl (e : RM Reg16) : Statement (.shlRm16Cl e) := of_rm rfl
theorem shrRm8One (e : RM Reg8) : Statement (.shrRm8One e) := of_rm rfl
theorem shrRm16One (e : RM Reg16) : Statement (.shrRm16One e) := of_rm rfl
theorem shrRm8Cl (e : RM Reg8) : Statement (.shrRm8Cl e) := of_rm rfl
theorem shrRm16Cl (e : RM Reg16) : Statement (.shrRm16Cl e) := of_rm rfl
theorem sarRm8One (e : RM Reg8) : Statement (.sarRm8One e) := of_rm rfl
theorem sarRm16One (e : RM Reg16) : Statement (.sarRm16One e) := of_rm rfl
theorem sarRm8Cl (e : RM Reg8) : Statement (.sarRm8Cl e) := of_rm rfl
theorem sarRm16Cl (e : RM Reg16) : Statement (.sarRm16Cl e) := of_rm rfl
theorem movsb : Statement (.movsb) := of_list 1 rfl (by decide) (by decide)
theorem movsw : Statement (.movsw) := of_list 1 rfl (by decide) (by decide)
theorem cmpsb : Statement (.cmpsb) := of_list 1 rfl (by decide) (by decide)
theorem cmpsw : Statement (.cmpsw) := of_list 1 rfl (by decide) (by decide)
theorem stosb : Statement (.stosb) := of_list 1 rfl (by decide) (by decide)
theorem stosw : Statement (.stosw) := of_list 1 rfl (by decide) (by decide)
theorem lodsb : Statement (.lodsb) := of_list 1 rfl (by decide) (by decide)
theorem lodsw : Statement (.lodsw) := of_list 1 rfl (by decide) (by decide)
theorem scasb : Statement (.scasb) := of_list 1 rfl (by decide) (by decide)
theorem scasw : Statement (.scasw) := of_list 1 rfl (by decide) (by decide)
theorem repne : Statement (.repne) := of_list 1 rfl (by decide) (by decide)
theorem rep : Statement (.rep) := of_list 1 rfl (by decide) (by decide)
theorem callRel16 (d : Word) : Statement (.callRel16 d) := of_list 3 rfl (by decide) (by decide)
theorem callRm16 (e : RM Reg16) : Statement (.callRm16 e) := of_rm rfl
theorem callFar (off : Word) (seg : Word) : Statement (.callFar off seg) := of_list 5 rfl (by decide) (by decide)
theorem callFarM (m : MemOp) : Statement (.callFarM m) := of_mem rfl
theorem jmpRel16 (d : Word) : Statement (.jmpRel16 d) := of_list 3 rfl (by decide) (by decide)
theorem jmpRel8 (d : Byte) : Statement (.jmpRel8 d) := of_list 2 rfl (by decide) (by decide)
theorem jmpRm16 (e : RM Reg16) : Statement (.jmpRm16 e) := of_rm rfl
theorem jmpFar (off : Word) (seg : Word) : Statement (.jmpFar off seg) := of_list 5 rfl (by decide) (by decide)
theorem jmpFarM (m : MemOp) : Statement (.jmpFarM m) := of_mem rfl
theorem retNear : Statement (.retNear) := of_list 1 rfl (by decide) (by decide)
theorem retNearImm16 (v : Word) : Statement (.retNearImm16 v) := of_list 3 rfl (by decide) (by decide)
theorem retFar : Statement (.retFar) := of_list 1 rfl (by decide) (by decide)
theorem retFarImm16 (v : Word) : Statement (.retFarImm16 v) := of_list 3 rfl (by decide) (by decide)
theorem jo (d : Byte) : Statement (.jo d) := of_list 2 rfl (by decide) (by decide)
theorem jno (d : Byte) : Statement (.jno d) := of_list 2 rfl (by decide) (by decide)
theorem jb (d : Byte) : Statement (.jb d) := of_list 2 rfl (by decide) (by decide)
theorem jnb (d : Byte) : Statement (.jnb d) := of_list 2 rfl (by decide) (by decide)
theorem je (d : Byte) : Statement (.je d) := of_list 2 rfl (by decide) (by decide)
theorem jne (d : Byte) : Statement (.jne d) := of_list 2 rfl (by decide) (by decide)
theorem jbe (d : Byte) : Statement (.jbe d) := of_list 2 rfl (by decide) (by decide)
theorem jnbe (d : Byte) : Statement (.jnbe d) := of_list 2 rfl (by decide) (by decide)
theorem js (d : Byte) : Statement (.js d) := of_list 2 rfl (by decide) (by decide)
theorem jns (d : Byte) : Statement (.jns d) := of_list 2 rfl (by decide) (by decide)
theorem jp (d : Byte) : Statement (.jp d) := of_list 2 rfl (by decide) (by decide)
theorem jnp (d : Byte) : Statement (.jnp d) := of_list 2 rfl (by decide) (by decide)
theorem jl (d : Byte) : Statement (.jl d) := of_list 2 rfl (by decide) (by decide)
theorem jnl (d : Byte) : Statement (.jnl d) := of_list 2 rfl (by decide) (by decide)
theorem jle (d : Byte) : Statement (.jle d) := of_list 2 rfl (by decide) (by decide)
theorem jnle (d : Byte) : Statement (.jnle d) := of_list 2 rfl (by decide) (by decide)
theorem loop (d : Byte) : Statement (.loop d) := of_list 2 rfl (by decide) (by decide)
theorem loope (d : Byte) : Statement (.loope d) := of_list 2 rfl (by decide) (by decide)
theorem loopne (d : Byte) : Statement (.loopne d) := of_list 2 rfl (by decide) (by decide)
theorem jcxz (d : Byte) : Statement (.jcxz d) := of_list 2 rfl (by decide) (by decide)
theorem intN (n : Byte) : Statement (.intN n) := of_list 2 rfl (by decide) (by decide)
theorem int3 : Statement (.int3) := of_list 1 rfl (by decide) (by decide)
theorem into : Statement (.into) := of_list 1 rfl (by decide) (by decide)
theorem iret : Statement (.iret) := of_list 1 rfl (by decide) (by decide)
theorem esc (x : BitVec 6) (e : RM Reg16) : Statement (.esc x e) := of_rm rfl
theorem notUsed (op : Byte) (next : Byte) : Statement (.notUsed op next) := by
  have h : encode (.notUsed op next) = if loneUnused op then [op] else [op, next] := rfl
  rw [Statement, h]
  split <;> simp
theorem clc : Statement (.clc) := of_list 1 rfl (by decide) (by decide)
theorem cmc : Statement (.cmc) := of_list 1 rfl (by decide) (by decide)
theorem stc : Statement (.stc) := of_list 1 rfl (by decide) (by decide)
theorem cld : Statement (.cld) := of_list 1 rfl (by decide) (by decide)
theorem std : Statement (.std) := of_list 1 rfl (by decide) (by decide)
theorem cli : Statement (.cli) := of_list 1 rfl (by decide) (by decide)
theorem sti : Statement (.sti) := of_list 1 rfl (by decide) (by decide)
theorem nop : Statement (.nop) := of_list 1 rfl (by decide) (by decide)
theorem esOverride : Statement (.esOverride) := of_list 1 rfl (by decide) (by decide)
theorem csOverride : Statement (.csOverride) := of_list 1 rfl (by decide) (by decide)
theorem ssOverride : Statement (.ssOverride) := of_list 1 rfl (by decide) (by decide)
theorem dsOverride : Statement (.dsOverride) := of_list 1 rfl (by decide) (by decide)
theorem lock : Statement (.lock) := of_list 1 rfl (by decide) (by decide)
theorem wait : Statement (.wait) := of_list 1 rfl (by decide) (by decide)
theorem hlt : Statement (.hlt) := of_list 1 rfl (by decide) (by decide)

end Short

end Sys2Proof.Laws
end

