-- ==== Sys2Proof/Tests/Slice0.lean ====
section
/-! SUPPORT. Tests: ill-formed terms refused, words written out from the encodings of R273 and R274, single steps whose
expected results are the vectors of `95_test_vectors.md` (named in each comment), and a state meeting the hypotheses
of each obligation that has any. -/

namespace Sys2Proof.Tests

open Machine Claims

/-! ## Ill-formed terms -/

/-- `mod` = 00 with `rm` = 110 is the direct address, so [BP] has no form without displacement (R264). -/
theorem test_wf_bp_needs_displacement : (Instr.movR16Rm16 .ax (.mem (.based .bp .none))).wf = false := by decide

/-- A lone operand is checked too. -/
theorem test_wf_lea_bp : (Instr.lea .ax (.based .bp .none)).wf = false := by decide

/-- 90 is `NOP`: exchanging AX with itself has no encoding of its own (R314). -/
theorem test_wf_xchg_ax_ax : (Instr.xchgAxR16 .ax).wf = false := by decide

/-- 90 is an opcode in use. -/
theorem test_wf_not_used_op : (Instr.notUsed 0x90 0).wf = false := by decide

/-- F7 /0 is `TEST`. -/
theorem test_wf_not_used_next : (Instr.notUsed 0xF7 0xC0).wf = false := by decide

/-- An opcode no second byte belongs to has no second byte. -/
theorem test_wf_not_used_lone : (Instr.notUsed 0x0F 1).wf = false := by decide

/-- The other bases do without a displacement. -/
theorem test_wf_bx : (Instr.movR16Rm16 .ax (.mem (.based .bx .none))).wf = true := by decide

/-! ## Words written out from the encodings -/

/-- E1: 8B, then mod 01, reg 000 (AX), rm 000 (BX+SI), displacement 5. -/
theorem test_decode_mov :
    decode [0b10001011, 0b01000000, 0x05] = some (.movR16Rm16 .ax (.mem (.based .bxsi (.d8 5))), []) := by decide

/-- E6: 81 /0 with mod 00 rm 110 (direct 1234), then the immediate 5678, low bytes first. -/
theorem test_decode_add_direct :
    decode [0b10000001, 0b00000110, 0x34, 0x12, 0x78, 0x56] = some (.addRm16Imm16 (.mem (.direct 0x1234)) 0x5678, [])
    := by decide

/-- D3 /7 on BX: mod 11, reg 111, rm 011. -/
theorem test_decode_sar : decode [0b11010011, 0b11111011] = some (.sarRm16Cl (.reg .bx), []) := by decide

/-- S4: the prefix F3 is an instruction of its own, and A6 follows it. -/
theorem test_decode_rep : decode [0xF3, 0b10100110] = some (.rep, [0xA6]) := by decide

/-- C8: 9A, offset 0100, segment 5000. -/
theorem test_decode_call_far :
    decode [0b10011010, 0x00, 0x01, 0x00, 0x50] = some (.callFar 0x0100 0x5000, []) := by decide

/-- X10: D9 is `ESC` with the low three opcode bits 001; reg 000 makes the six-bit code 001000. -/
theorem test_decode_esc :
    decode [0b11011001, 0b00000110, 0x00, 0x10] = some (.esc 0b001000 (.mem (.direct 0x1000)), []) := by decide

/-- FF /7 is not used (R274). -/
theorem test_decode_not_used : decode [0xFF, 0b11111000] = some (.notUsed 0xFF 0xF8, []) := by decide

/-- The bytes end before the instruction does. -/
theorem test_decode_short : decode [0x81, 0x06, 0x34] = none := by decide

/-- The rows of the table number the opcode byte 15:8 and the ModRM byte 7:0. -/
theorem test_decode_table_word : decodeTableWord 16 0xF7D8 = some (.negRm16 (.reg .ax)) := by decide

/-! ## Single steps -/

/-- The start of the vectors: ES = 3000, CS = 1000, SS = 2000, DS = 4000, IP = 0100, SP = 0200. -/
def standard : State :=
  { State.reset with
    segs := { es := 0x3000, cs := 0x1000, ss := 0x2000, ds := 0x4000 }
    ip := 0x0100
    unstarted := false
    regs := { State.reset.regs with sp := 0x0200 } }

/-- Bytes stored from a physical address on. -/
def store (s : State) (a : Nat) : List Byte → State
  | [] => s
  | b :: bs => store { s with mem := Memory.write s.mem a b } (a + 1) bs

/-- The standard state with an instruction at CS:IP, the registers given, and bytes at an address. -/
def lab (code : List Byte) (g : Regs → Regs := id) (a : Nat := 0) (data : List Byte := []) : State :=
  store { standard.placeCode 0x0100 code with regs := g standard.regs } a data

/-- The next step completes, and its state satisfies a check. -/
def gives (s : State) (p : State → Bool) : Bool :=
  match step s with
  | .next t => p t
  | .fault _ => false
  | .refused _ => false

/-- Kind, address, low and high byte of a bus cycle. -/
def row (c : BusCycle) : BusKind × Option Addr × Option Byte × Option Byte :=
  (c.kind, c.addr, c.data.low, c.data.high)

/-- The data cycles of a state's log. -/
def traffic (t : State) : List (BusKind × Option Addr × Option Byte × Option Byte) :=
  (t.log.cycles.filter fun c => decide (c.kind ≠ .fetch)).map row

/-- The state after some steps, none where one of them does not complete. -/
def after : Nat → State → Option State
  | 0, s => some s
  | n + 1, s =>
    match step s with
    | .next t => after n t
    | .fault _ => none
    | .refused _ => none

/-- The state after some steps satisfies a check. -/
def givesAfter (n : Nat) (s : State) (p : State → Bool) : Bool := ((after n s).map p).getD false

/-- CF, PF, AF, ZF, SF, OF. -/
def six (t : State) : List Bool := [t.flags.cf, t.flags.pf, t.flags.af, t.flags.zf, t.flags.sf, t.flags.ofl]

/-- E1: an unaligned word read, two cycles, low byte first. -/
theorem test_mov_load : gives (lab [0x8B, 0x40, 0x05] (fun g => { g with bx := 0x1000, si := 0x20 }) 0x41025 [0xCD, 0xAB])
    (fun t => t.regs.ax = 0xABCD ∧ t.ip = 0x0103 ∧
      traffic t = [(.memr, some 0x41025, none, some 0xCD), (.memr, some 0x41026, some 0xAB, none)]) = true := by decide

/-- E2: a base of BP means SS. -/
theorem test_mov_stack_segment : gives (lab [0x8B, 0x46, 0xFE] (fun g => { g with bp := 0x100 }) 0x200FE [0x11, 0x22])
    (fun t => t.regs.ax = 0x2211 ∧ traffic t = [(.memr, some 0x200FE, some 0x11, some 0x22)]) = true := by decide

/-- E4: the offset wraps inside the segment. -/
theorem test_ea_wraps : (lab [] (fun g => { g with bx := 0xFFFF, si := 2 })).ea (.based .bxsi .none) = 1 := by decide

/-- D5: `PUSH SP` pushes the decremented SP. -/
theorem test_push_sp : gives (lab [0x54] (fun g => { g with sp := 0x100 })) (fun t =>
    t.regs.sp = 0xFE ∧ traffic t = [(.memw, some 0x200FE, some 0xFE, some 0)]) = true := by decide

/-- D7: a push at SP = 1 wraps its high byte to offset 0. -/
theorem test_push_wraps : gives (lab [0x50] (fun g => { g with ax := 0x1234, sp := 1 })) (fun t =>
    traffic t = [(.memw, some 0x2FFFF, none, some 0x34), (.memw, some 0x20000, some 0x12, none)]) = true := by decide

/-- D6: `POP SP` leaves the word popped. -/
theorem test_pop_sp : gives (lab [0x5C] (fun g => { g with sp := 0x100 }) 0x20100 [0x00, 0x03])
    (fun t => t.regs.sp = 0x300) = true := by decide

/-- D8: `XCHG` with memory reads before it writes. -/
theorem test_xchg : gives (lab [0x86, 0x07] (fun g => { g with ax := 0x55, bx := 0x300 }) 0x40300 [0xAA])
    (fun t => t.regs.ax = 0xAA ∧ traffic t = [(.memr, some 0x40300, some 0xAA, none),
      (.memw, some 0x40300, some 0x55, none)]) = true := by decide

/-- D10: offset first, then segment. -/
theorem test_lds : gives (lab [0xC5, 0x36, 0x00, 0x03] id 0x40300 [0x78, 0x56, 0x34, 0x12])
    (fun t => t.regs.si = 0x5678 ∧ t.segs.ds = 0x1234) = true := by decide

/-- D13: the image of CF, ZF and IF, with the bits of R34. -/
theorem test_pushf : gives { lab [0x9C] with flags := { State.reset.flags with cf := true, zf := true, ifl := true } }
    (fun t => traffic t = [(.memw, some 0x201FE, some 0x43, some 0xF2)]) = true := by decide

/-- D16: a word in from two ports. -/
theorem test_in : gives
    { lab [0xED] (fun g => { g with dx := 0x3F8 }) with
      devices := [⟨[0x3F8], 0, none, [⟨0, 0x3F8, 0x41, 1⟩], [], []⟩, ⟨[0x3F9], 0, none, [⟨0, 0x3F9, 0x42, 0⟩], [], []⟩] }
    (fun t => t.regs.ax = 0x4241 ∧ traffic t = [(.ior, some 0x3F8, some 0x41, some 0x42)]) = true := by decide

/-- `OUT 60H,AL`, then `IN AL,60H`: a device that answers what it was sent (R10, log entry 17). -/
theorem test_device_reacts : givesAfter 2
    { lab [0xE6, 0x60, 0xE4, 0x60] (fun g => { g with ax := 0x05 }) with
      devices := [⟨[0x60], 0, none, [⟨5, 0x60, 0xA5, 0⟩, ⟨0, 0x60, 0xFF, 0⟩], [⟨0, 0x60, 5, 5⟩], []⟩] }
    (fun t => t.regs.ax = 0xA5 ∧ t.devices.map (fun d => (d.now, d.received)) = [(0, [(0x60, 5)])]) = true := by decide

/-- RESET_DRV puts a device into its reset state, and RESET of the CPU does not (R620, R628). -/
theorem test_reset_drv :
    let s : State := { standard with devices := [⟨[0x60], 5, some 2, [], [], []⟩, ⟨[0x61], 5, none, [], [], []⟩] }
    ((s.happen .resetDrv).devices.map Device.now, (s.happen (.reset false false)).devices.map Device.now) =
      ([2, 5], [5, 5]) := by decide

/-- A1: a carry between the digits, none out. -/
theorem test_add : gives (lab [0x05, 0x01, 0x00] (fun g => { g with ax := 0xFF }))
    (fun t => t.regs.ax = 0x100 ∧ six t = [false, true, true, false, false, false]) = true := by decide

/-- A2: carry and overflow at once. -/
theorem test_add_overflow : gives (lab [0x05, 0x00, 0x80] (fun g => { g with ax := 0x8000 }))
    (fun t => t.regs.ax = 0 ∧ six t = [true, true, false, true, false, true]) = true := by decide

/-- A25: the borrow counts. -/
theorem test_sbb : gives { lab [0x1C, 0x00] with flags := { State.reset.flags with cf := true } }
    (fun t => t.regs.ax = 0xFF ∧ six t = [true, true, true, false, true, false]) = true := by decide

/-- A6: 7F - 80 overflows and borrows; nothing is stored. -/
theorem test_cmp : gives (lab [0x38, 0xD8] (fun g => { g with ax := 0x7F, bx := 0x80 }))
    (fun t => t.regs.ax = 0x7F ∧ six t = [true, true, false, false, true, true]) = true := by decide

/-- A23: `INC` keeps CF. -/
theorem test_inc : gives { lab [0x40] (fun g => { g with ax := 0x7FFF }) with
      flags := { State.reset.flags with cf := true } }
    (fun t => t.regs.ax = 0x8000 ∧ six t = [true, true, true, false, true, true]) = true := by decide

/-- A24: the most negative byte stays. -/
theorem test_neg : gives (lab [0xF6, 0xD8] (fun g => { g with ax := 0x80 }))
    (fun t => t.regs.ax = 0x80 ∧ six t = [true, false, false, false, true, true]) = true := by decide

/-- A7 and A8: FFFF times FFFF, unsigned and signed. -/
theorem test_mul : gives (lab [0xF7, 0xE3] (fun g => { g with ax := 0xFFFF, bx := 0xFFFF }))
    (fun t => t.regs.dx = 0xFFFE ∧ t.regs.ax = 1 ∧ t.flags.cf ∧ t.flags.ofl) = true := by decide

theorem test_imul : gives (lab [0xF7, 0xEB] (fun g => { g with ax := 0xFFFF, bx := 0xFFFF }))
    (fun t => t.regs.dx = 0 ∧ t.regs.ax = 1 ∧ t.flags.cf = false ∧ t.flags.ofl = false) = true := by decide

/-- A13: 7 divided by -2 is -3, remainder 1. -/
theorem test_idiv : gives (lab [0xF6, 0xFB] (fun g => { g with ax := 7, bx := 0xFE }))
    (fun t => t.regs.ax = 0x01FD) = true := by decide

/-- A12: a quotient of -128 is a divide error, which pushes a frame. -/
theorem test_idiv_error : gives (lab [0xF6, 0xFB] (fun g => { g with ax := 0xFF80, bx := 1 }))
    (fun t => t.regs.sp = 0x1FA ∧ t.queue = []) = true := by decide

/-- A28: `DAA` of 9A. -/
theorem test_daa : gives (lab [0x27] (fun g => { g with ax := 0x9A }))
    (fun t => t.regs.ax = 0 ∧ (six t).take 5 = [true, true, true, true, false]) = true := by decide

/-- A15: the correction of AL and that of AH are two additions of 8 bits. -/
theorem test_aaa : gives (lab [0x37] (fun g => { g with ax := 0xFA }))
    (fun t => t.regs.ax = 0x100 ∧ t.flags.af ∧ t.flags.cf) = true := by decide

/-- L5: the count is all of CL. -/
theorem test_shl : gives (lab [0xD3, 0xE0] (fun g => { g with ax := 1, cx := 0x11 }))
    (fun t => t.regs.ax = 0 ∧ t.flags.cf = false ∧ t.flags.zf) = true := by decide

/-- L4: the sign fills. -/
theorem test_sar : gives (lab [0xD2, 0xF8] (fun g => { g with ax := 0x80, cx := 8 }))
    (fun t => t.regs.ax = 0xFF ∧ t.flags.cf ∧ t.flags.sf) = true := by decide

/-- L7: nine steps through CF are the identity on a byte. -/
theorem test_rcl : gives { lab [0xD2, 0xD0] (fun g => { g with ax := 0xA5, cx := 9 }) with
      flags := { State.reset.flags with cf := true } } (fun t => t.regs.ax = 0xA5 ∧ t.flags.cf) = true := by decide

/-- L16: `NOT` changes no flag. -/
theorem test_not : gives { lab [0xF7, 0xD0] with flags := { State.reset.flags with cf := true, zf := true } }
    (fun t => t.regs.ax = 0xFFFF ∧ six t = [true, false, false, true, false, false]) = true := by decide

/-- S6: `LODSW` at an odd offset. -/
theorem test_lodsw : gives (lab [0xAD] (fun g => { g with si := 0x11 }) 0x40011 [0x34, 0x12])
    (fun t => t.regs.ax = 0x1234 ∧ t.regs.si = 0x13) = true := by decide

/-- S10: downwards, SI and DI go on by two below 0. -/
theorem test_cmpsw : gives (store { lab [0xA7] id 0x40000 [0x00, 0x80] with
      flags := { State.reset.flags with df := true } } 0x30000 [0x01])
    (fun t => t.regs.si = 0xFFFE ∧ t.regs.di = 0xFFFE ∧ six t = [false, true, true, false, false, true]) = true := by
  decide

/-- S2, its first iteration: CX counts down and the loop is not over. -/
theorem test_rep_movsb : gives { lab [0xA4] (fun g => { g with cx := 3, si := 0x10, di := 0x11 }) 0x40010 [0xAA] with
      armed := { pending := true, seg := none, rep := some .rep, start := 0xFF, opcode := 0xFF } }
    (fun t => t.byteAt 0x30011 = 0xAA ∧ t.regs.cx = 2 ∧ t.inProgress = some .movsb ∧ t.ip = 0x101) = true := by decide

/-- C5: a jump back below the offset. -/
theorem test_jbe : gives { lab [0x76, 0x80] with flags := { State.reset.flags with zf := true } }
    (fun t => t.ip = 0x82) = true := by decide

/-- C12: `LOOP` with CX = 0 goes round. -/
theorem test_loop : gives (lab [0xE2, 0xFE]) (fun t => t.ip = 0x100 ∧ t.regs.cx = 0xFFFF) = true := by decide

/-- C8: CS above IP on the stack. -/
theorem test_call_far : gives (lab [0x9A, 0x00, 0x01, 0x00, 0x50] (fun g => { g with sp := 0x100 }))
    (fun t => t.segs.cs = 0x5000 ∧ t.ip = 0x100 ∧ traffic t =
      [(.memw, some 0x200FE, some 0x00, some 0x10), (.memw, some 0x200FC, some 0x05, some 0x01)]) = true := by decide

/-- C10: `RET 4`. -/
theorem test_ret_imm : gives (lab [0xC2, 0x04, 0x00] (fun g => { g with sp := 0xFE }) 0x200FE [0x50, 0x01])
    (fun t => t.ip = 0x150 ∧ t.regs.sp = 0x104) = true := by decide

/-- C18: `INT 21H`, its frame and its vector. -/
theorem test_int : gives { lab [0xCD, 0x21] (fun g => { g with sp := 0x100 }) 0x84 [0x00, 0x10, 0x00, 0x20] with
      flags := { State.reset.flags with cf := true, ifl := true } }
    (fun t => t.segs.cs = 0x2000 ∧ t.ip = 0x1000 ∧ t.regs.sp = 0xFA ∧ t.flags.ifl = false ∧ traffic t =
      [(.memw, some 0x200FE, some 0x03, some 0xF2), (.memw, some 0x200FC, some 0x00, some 0x10),
       (.memw, some 0x200FA, some 0x02, some 0x01), (.memr, some 0x84, some 0x00, some 0x10),
       (.memr, some 0x86, some 0x00, some 0x20)]) = true := by decide

/-- C21: `IRET`. -/
theorem test_iret : gives (lab [0xCF] (fun g => { g with sp := 0xFA }) 0x200FA [0x03, 0x01, 0x00, 0x20, 0x02, 0xF2])
    (fun t => t.ip = 0x103 ∧ t.segs.cs = 0x2000 ∧ t.flags.ifl ∧ t.regs.sp = 0x100) = true := by decide

/-- X4: a latched NMI is taken with IF = 0, and its latch is cleared. -/
theorem test_nmi : gives { lab [0x90] (fun g => { g with sp := 0x100 }) 8 [0x00, 0x03, 0x00, 0x30] with nmiLatch := true }
    (fun t => t.ip = 0x300 ∧ t.segs.cs = 0x3000 ∧ t.nmiLatch = false ∧ t.regs.sp = 0xFA) = true := by decide

/-- After RESET the fetch at FFFF:0000 and one instruction come before an NMI that is latched already (R528, R620). -/
theorem test_nmi_after_reset :
    let s : State := { (State.reset.placeCode 0 [0x90]) with nmiLatch := true, segs := State.reset.segs }
    gives s (fun t => t.ip = 1 ∧ t.nmiLatch ∧ t.due = some .nmi) = true ∧
    givesAfter 2 s (fun t => t.nmiLatch = false ∧ t.segs.cs = 0) = true := by decide

/-- A CPU that an NMI takes out of the halt fetches again at the points of the sequence (R302, R657). -/
theorem test_fetch_leaving_halt : gives { lab [] with halted := true, nmiLatch := true, script := [.cpu [[.fetch]]] }
    (fun t => (t.log.cycles.map fun c => c.kind).take 2 = [.fetch, .memw] ∧ t.halted = false) = true := by decide

/-- X2: INTR waits for IF. -/
theorem test_intr_masked : gives { lab [0x90] with pins := { State.reset.pins with intr := true, intType := 0x20 } }
    (fun t => t.ip = 0x101) = true := by decide

/-- X8: `HLT` runs the halt cycle. -/
theorem test_hlt : gives (lab [0xF4]) (fun t => t.halted ∧ t.ip = 0x101 ∧ traffic t = [(.halt, none, none, none)]) = true
    := by decide

/-- Under `LOCK` the halt cycle of `HLT` is locked, and the halt is not (R300, R302, log entry 50). -/
theorem test_lock_hlt : gives { lab [0xF4] with locked := true, armed := { State.reset.armed with pending := true } }
    (fun t => (t.log.cycles.drop 1).map (fun c => c.lock) = [true] ∧ t.halted ∧ t.canCede) = true := by decide

/-- D8L: `LOCK` before the instruction makes its cycles locked, and ends with it. -/
theorem test_lock : gives { lab [0x87, 0x07] (fun g => { g with ax := 0x55AA, bx := 0x301 }) with
      locked := true, armed := { State.reset.armed with pending := true } }
    (fun t => (t.log.cycles.drop 1).all (fun c => c.lock) ∧ (traffic t).length = 4 ∧ t.locked = false) = true := by decide

/-- B50: the first fetch after RESET is of the word at FFFF0. -/
theorem test_first_fetch : gives State.reset
    (fun t => (t.log.cycles.take 1).map (fun c => (c.kind, c.addr, c.bhe)) = [(.fetch, some 0xFFFF0, some false)]) = true
    := by decide

/-- The loaded instruction is the one the next step runs. -/
theorem test_with_fetch_word : gives (State.reset.withFetchWord 8 0xF9) (fun t => t.flags.cf) = true := by decide

/-- `ADD r8, r/m8` with a prefix that is not documented before it is refused (R275 (f)). -/
theorem test_rep_add : (match step { lab [0x02, 0x07] with
      armed := { State.reset.armed with pending := true, rep := some .rep } } with
    | .next _ => false
    | .fault _ => false
    | .refused q => decide (q = .undocumentedPrefix)) = true := by decide

/-- An override before `STOSB`, whose destination has none, is refused (R275 (f), U28, R434). -/
theorem test_override_stosb : (match step { lab [0xAA] with
      armed := { State.reset.armed with pending := true, seg := some .ss } } with
    | .next _ => false
    | .fault _ => false
    | .refused q => decide (q = .undocumentedPrefix)) = true := by decide

/-! ## Between the bus cycles of one instruction -/

/-- `ADD [BX],AX` at an odd address: two reads, then two writes; what happens at the points is given. -/
def adding (gaps : List (List Event)) (rest : List Move := []) : State :=
  { lab [0x01, 0x07] (fun g => { g with ax := 0x1234, bx := 0x11 }) 0x40011 [0x01, 0x02] with
    script := .env (.request false) :: .cpu gaps :: rest }

/-- Fetches stand among the data cycles, where they are put (R151, R657). -/
theorem test_fetch_between : givesAfter 2 (adding [[], [.fetch], [], [.fetch]])
    (fun t => t.log.cycles.map (fun c => c.kind) = [.fetch, .fetch, .memr, .memr, .fetch, .memw, .memw]) = true := by
  decide

/-- READY fails in the fourth cycle: the first write is done, the second is begun and the machine is stuck in it
(R182, U26). -/
theorem test_hang_inside : givesAfter 2 (adding [[], [], [], [], [.neverReady]])
    (fun t => t.byteAt 0x40011 = 0x35 ∧ t.byteAt 0x40012 = 0x02 ∧ t.ip = 0x0102 ∧ t.flags.pf = true ∧
      t.stuck.map row = some (.memw, some 0x40012, some 0x14, none)) = true := by decide

theorem test_hang_is_stuck : (match (after 2 (adding [[], [], [], [], [.neverReady]])).map step with
    | some (.fault f) => decide (f = .stuckNotReady)
    | _ => false) = true := by decide

/-- The bus is granted between the reads and the writes, outlasts the step, and the instruction goes on after the
release (R194, R199). -/
theorem test_cession_inside : givesAfter 2 (adding [[], [], [], [.grant, .master (.memWrite 0x40012 0x77)]])
    (fun t => t.owner = .ext0 ∧ t.log.grants = [false] ∧ traffic t = [(.memr, some 0x40011, none, some 0x01),
      (.memr, some 0x40012, some 0x02, none)] ∧ t.midway.isSome ∧ t.regs.ax = 0x1234) = true := by decide

theorem test_cession_resumes : givesAfter 4
    (adding [[], [], [], [.grant, .master (.memWrite 0x40012 0x77)]] [.env (.release false)])
    (fun t => t.byteAt 0x40011 = 0x35 ∧ t.byteAt 0x40012 = 0x14 ∧ traffic t = [(.memw, some 0x40011, none, some 0x35),
      (.memw, some 0x40012, some 0x14, none)] ∧ t.midway = none) = true := by decide

/-- The bus is ceded after an NMI has pushed FLAGS: while the sequence waits, and in a fetch behind the release, IF is 0, as
S5 shows; FLAGS have been pushed once, with IF = 1 (R64, R94, R530). -/
theorem test_s5_while_waiting :
    let s : State := { lab [0x90] with
      nmiLatch := true
      flags := { standard.flags with ifl := true }
      script := [.env (.request false), .cpu [[], [.grant]], .env (.release false), .env .fetch, .cpu []] }
    givesAfter 2 s (fun t => t.owner = .ext0 ∧ t.midway.isSome ∧ t.regs.sp = 0x01FC ∧
      t.log.cycles.map (fun c => (c.kind, c.s5)) = [(.memw, true)]) = true ∧
    givesAfter 4 s (fun t => t.log.cycles.map (fun c => (c.kind, c.s5)) = [(.fetch, false)]) = true ∧
    givesAfter 5 s (fun t => t.midway = none ∧ t.regs.sp = 0x01FA ∧ t.byteAt 0x201FF = 0xF2 ∧
      (traffic t).take 1 = [(.memw, some 0x201FC, some 0x00, some 0x10)]) = true := by decide

/-- Another master writes a word in one cycle (R17, R170, R199). -/
theorem test_master_word : (fun t : State => (t.byteAt 0x40010, t.byteAt 0x40011))
    ({ standard with owner := .ext0, ch0 := .granted }.happen (.master (.memWriteWord 0x20008 0x1234))) =
      (0x34, 0x12) := by decide

/-- A divisible word ceded between its two cycles: after the release no fetch comes before the second one (R657, U22). -/
theorem test_no_fetch_inside_word :
    let s := adding [[], [], [.grant]] [.env (.release false), .env .fetch]
    let divisible : State := { s with params := { s.params with splitWords := true } }
    givesAfter 4 divisible (fun t => t.owner = .cpu ∧ t.midway.isSome ∧ t.log.cycles = [] ∧ t.point = .insideWord) = true ∧
    givesAfter 5 divisible (fun t => t.byteAt 0x40011 = 0x35 ∧ t.byteAt 0x40012 = 0x14 ∧
      (traffic t).take 1 = [(.memr, some 0x40012, some 0x02, none)]) = true := by decide

/-- RESET in the first write cycle, whose byte lands or does not (R620, U23). -/
theorem test_reset_inside : givesAfter 2 (adding [[], [], [], [.reset false true]])
    (fun t => t.byteAt 0x40011 = 0x35 ∧ t.byteAt 0x40012 = 0x02 ∧ t.segs.cs = 0xFFFF ∧ t.ip = 0) = true ∧
    givesAfter 2 (adding [[], [], [], [.reset false false]]) (fun t => t.byteAt 0x40011 = 0x01) = true := by decide

/-- RESET while the second write cycle hangs: its byte, on D0 to D7, lands or does not (R620, R650, U23). -/
theorem test_reset_hung :
    givesAfter 3 (adding [[], [], [], [], [.neverReady]] [.env (.reset true false)])
      (fun t => t.byteAt 0x40012 = 0x14 ∧ t.stuck = none ∧ t.hung = false ∧ t.unstarted) = true ∧
    givesAfter 3 (adding [[], [], [], [], [.neverReady]] [.env (.reset false true)])
      (fun t => t.byteAt 0x40012 = 0x02 ∧ t.byteAt 0x40011 = 0x35) = true := by decide

/-- `INT 1` with TF = 1 takes one sequence, `INT 5` a second one, of type 1 (R527, R529, log entry 23). -/
theorem test_int1_stepped :
    givesAfter 1 { lab [0xCD, 0x01] with flags := { State.reset.flags with tf := true } }
      (fun t => t.regs.sp = 0x1FA ∧ t.due = none) = true ∧
    givesAfter 1 { lab [0xCD, 0x05] with flags := { State.reset.flags with tf := true } }
      (fun t => t.regs.sp = 0x1FA ∧ t.due = some .trap) = true := by decide

/-! ## The pins and the systems around the CPU -/

/-- R176, R177: no address and no level of #BHE in acknowledge and halt cycles. -/
theorem test_no_bhe : (standard.haltCycle.log.cycles ++ standard.acknowledge.2.log.cycles).map (fun c => (c.kind, c.bhe)) =
    [(.halt, none), (.inta, none), (.inta, none)] := by decide

/-- A word read at the even address 40010 by the CPU alone, as a bus cycle. -/
def wordRead : BusCycle := standard.busCycle .memr (some 0x40010) (some .ds) (Lanes.word 0xBEEF)

/-- R245, R246: a word read takes both RAM chips and no I/O order, in both systems; a byte at an odd address takes the
odd chip; the address is held after T1, and the data pass toward the CPU. -/
theorem test_example_systems :
    let view (m : Mode) (c : BusCycle) : SystemView := exampleSystem { standard.params with mode := m }
      ⟨true, false, false, false, true⟩ pcCrystal ⟨true, false⟩ none c
    let odd := standard.busCycle .memr (some 0x40011) (some .ds) (Lanes.byte 0x40011 0xBE)
    [view .minimum wordRead, view .maximum wordRead].map (fun v => (v.ready, v.reset, v.clk, v.inta)) =
        [(true, false, 4772726, false), (true, false, 4772726, false)] ∧
    [view .minimum wordRead, view .maximum wordRead].map (fun v => (v.address, v.cpuData)) =
        [(some ⟨0x40010, false⟩, Lanes.word 0xBEEF), (some ⟨0x40010, false⟩, Lanes.word 0xBEEF)] ∧
    [view .minimum wordRead, view .maximum wordRead, view .maximum odd].map
        (fun v => (v.blocks.csdl, v.blocks.csdh, v.blocks.ramRead, v.blocks.ramWrite, v.blocks.ioRead)) =
      [(true, true, true, false, false), (true, true, true, false, false), (false, true, true, false, false)] := by decide

/-- R123, R245: a word over the boundary of RAM and ROM takes a chip of each. -/
theorem test_mixed_word : (blocks { standard.params with memMap := [⟨0x40011, 1, .rom⟩] } (some ⟨0x40010, false⟩)
    { Orders.none with memRead := true }) = ⟨true, false, true, false, true, true, false, false⟩ := by decide

/-- R588, R616 (a): the memory read command reaches a card under its ISA name, and not at 1 MB. -/
theorem test_isa_commands :
    ({ Orders.none with memRead := true }.isa 0x0FFFFF).smemr = true ∧
    ({ Orders.none with memRead := true }.isa 0x100000).smemr = false := by decide

/-! ## States that meet the hypotheses of the obligations

`Quiet` alone is the hypothesis of Products, CompareAndTest, AddAndAdc, SubAndSbb, IncAndDec, NegAndNot,
LogicOperations, Moves, SegmentLoads, Pushes, Pops, ExchangesAndTables, FlagTransfers, JumpsAndCalls, Returns,
InterruptReturn and of the first clauses of others: `witness_quiet` is theirs. -/

theorem witness_quiet : State.reset.Quiet := by unfold State.Quiet; decide

/-- DecodeOfEncode. -/
theorem witness_decode_of_encode : (Instr.addRm16Imm16 (.mem (.direct 0x1234)) 0x5678).wf = true := by decide

/-- EncodeOfDecode. -/
theorem witness_encode_of_decode : decode [0x83, 0xC3, 0xFF, 0x90] = some (.addRm16Simm8 (.reg .bx) 0xFF, [0x90]) := by
  decide

/-- SixBytesDecode. -/
theorem witness_six_bytes : ([0xFF, 0xFF, 0xFF, 0xFF, 0xFF, 0xFF] : List Byte).length = 6 := by decide

/-- StepRunsDecoded: an instruction of two bytes at CS:IP, one byte queued. -/
theorem witness_ready : Ready { lab [0x40, 0xC3] with queue := [0x03] } := by
  unfold Ready; decide

theorem witness_stands : StandsAt { lab [0x40, 0xC3] with queue := [0x03] } (.addR16Rm16 .ax (.reg .bx)) := by
  intro k h
  have : k < 2 := h
  interval_cases k <;> exact ⟨rfl, fun _ => by decide⟩

/-- StepRunsDecoded: its bytes before a prefix that admits it, and before one that does not. -/
theorem witness_admits : (lab []).admits (.addR16Rm16 .ax (.reg .bx)) = true ∧
    { lab [] with armed := { State.reset.armed with pending := true, rep := some .rep } }.admits
      (.addR16Rm16 .ax (.reg .bx)) = false := by decide

/-- ResetLeaves, its three clauses: a RESET between two turns, with a write cycle that hangs and without; one that cuts a
turn; one that comes before a write of a word. -/
theorem witness_reset_leaves :
    { standard with script := [.env (.reset true false), .cpu []] }.script = .env (.reset true false) :: [.cpu []] ∧
    standard.stuck = none := ⟨rfl, rfl⟩

theorem witness_reset_stuck :
    ((standard.busCycle .memw (some 0x40010) (some .ds) (Lanes.word 0x1234)).kind,
      (standard.busCycle .memw (some 0x40010) (some .ds) (Lanes.word 0x1234)).addr) = (.memw, some 0x40010) ∧
    wordRead.kind ≠ .memw ∧ wordRead.kind ≠ .iow := by decide

theorem witness_reset_cut : (match State.cpuTurn .layerG (lab [0x90]) [[.reset false false]] with
    | .next u => u.flight.cut.isSome
    | _ => false) = true := by decide

theorem witness_reset_in_write :
    let s : State := { standard with flight := { Flight.idle with gaps := [[.reset true false]] } }
    s.hung = false ∧ s.owner = .cpu ∧ s.stuck = none ∧ (s.addr .ds 0x0010).toNat % 2 = 0 := by decide

/-- The standard state satisfies the invariant. -/
theorem standard_inv : standard.Inv := by
  refine ⟨⟨by decide, by decide, ?_, ?_⟩, ?_, rfl⟩
  · unfold State.busFits; decide
  · unfold State.stuckFits; decide
  · intro i h; simp [standard, State.reset] at h

/-- StepKeepsInvariant. -/
theorem witness_step_keeps : ∃ t, standard.Inv ∧ step standard = .next t := by
  rcases h : step standard with t | f | r
  · exact ⟨t, standard_inv, rfl⟩
  · have : gives standard (fun _ => true) = true := by decide
    simp [gives, h] at this
  · have : gives standard (fun _ => true) = true := by decide
    simp [gives, h] at this

/-- LockExcludesMasters: a locked store of an unaligned word, with and without other masters at its points. -/
theorem witness_lock :
    let s : State := { standard with locked := true, ch0 := .requested }
    let gaps : List (List Event) := [[.grant, .master (.memWrite 0x40001 7)], [.release true], []]
    s.lockActive = true ∧ s.hung = false ∧ s.owner = .cpu ∧ s.ch0 ≠ .granted ∧ s.ch1 ≠ .granted ∧
    (match exec (.movMoffsAx 1) { s with flight := { Flight.idle with gaps := gaps } } with
      | .next t => decide (t.flight.gaps.length = 1)
      | _ => false) = true := by decide

theorem witness_foreign : Foreign .grant ∧ Foreign (.master (.memWrite 0x40001 7)) ∧ Foreign (.release true) :=
  ⟨.inl rfl, .inr (.inl ⟨_, rfl⟩), .inr (.inr ⟨_, rfl⟩)⟩

/-- The step faults for a reason. -/
def faults (s : State) (f : Fault) : Bool :=
  match step s with
  | .fault g => decide (g = f)
  | _ => false

/-- FaultsOnlyStuck: a cycle that never ends, and a bus ceded for good. -/
theorem witness_faults : faults { lab [0x90] with hung := true } .stuckNotReady = true ∧
    faults { lab [0x90] with owner := .ext0, ch0 := .granted } .stuckBusCeded = true := by decide

/-- BarredTurnTouchesNothing: the bus is ceded, and something is still to come; or READY is gone, and an instruction in the
queue needs no bus. -/
theorem witness_barred :
    { lab [0x90] with owner := .ext0, ch0 := .granted, script := [.cpu [], .env (.release false)] }.barred = true ∧
    gives { lab [0x90] with owner := .ext0, ch0 := .granted, script := [.cpu [], .env (.release false)] }
      (fun t => t.owner = .ext0 ∧ t.ip = 0x0100) = true ∧
    { lab [0x90] with hung := true, queue := [0x90] }.script = [] ∧
    gives { lab [0x90] with hung := true, queue := [0x90] } (fun t => t.ip = 0x0101) = true := by decide

/-- WordsReadBack, and the clauses of CyclesPerAccess, the last offset of a segment and the last ports among them. -/
theorem witness_words : standard.Quiet ∧ (0xFFFD : Word).toNat % 2 = 1 ∧ (0xFFFE : Word).toNat % 2 = 0 ∧
    (0xFFFF : Word).toNat % 2 = 1 ∧ (0xFFFD : Word) ≠ 0xFFFF ∧
    standard.kindAt (standard.addr .ds 0xFFFF) = .ram ∧
    standard.kindAt (standard.addr .ds (0xFFFF + 1)) = .ram ∧ (standard.addr .ds 0xFFFF).toNat % 2 = 1 ∧
    (standard.addr .ds 0xFFFE).toNat % 2 = 0 := by
  unfold State.Quiet; decide

/-- The standard state with AX, BX and DX. -/
def dividing (ax bx dx : Word) : State := { standard with regs := { standard.regs with ax := ax, bx := bx, dx := dx } }

/-- UnsignedQuotients: the largest dividends that fit. -/
theorem witness_div :
    (dividing 0xFEFF 0x00FF 0).Quiet ∧ (dividing 0xFFFF 0xFFFF 0xFFFE).Quiet ∧
    ((dividing 0xFEFF 0x00FF 0).reg16 .ax).toNat <
      2 ^ 8 * (operand8 (dividing 0xFEFF 0x00FF 0) ((dividing 0xFEFF 0x00FF 0).place (.reg .bl))).toNat ∧
    ((dividing 0xFFFF 0xFFFF 0xFFFE).reg16 .dx ++ (dividing 0xFFFF 0xFFFF 0xFFFE).reg16 .ax).toNat <
      2 ^ 16 * (operand16 (dividing 0xFFFF 0xFFFF 0xFFFE) ((dividing 0xFFFF 0xFFFF 0xFFFE).place (.reg .bx))).toNat := by
  unfold State.Quiet; decide

/-- SignedQuotients: -127 and -32767 are quotients. -/
theorem witness_idiv :
    (dividing 0xFF81 1 0).Quiet ∧ (dividing 0x8001 1 0xFFFF).Quiet ∧
    operand8 (dividing 0xFF81 1 0) ((dividing 0xFF81 1 0).place (.reg .bl)) ≠ 0 ∧
    (((dividing 0xFF81 1 0).reg16 .ax).toInt.tdiv
      (operand8 (dividing 0xFF81 1 0) ((dividing 0xFF81 1 0).place (.reg .bl))).toInt).natAbs ≤ 127 ∧
    operand16 (dividing 0x8001 1 0xFFFF) ((dividing 0x8001 1 0xFFFF).place (.reg .bx)) ≠ 0 ∧
    (((dividing 0x8001 1 0xFFFF).reg16 .dx ++ (dividing 0x8001 1 0xFFFF).reg16 .ax).toInt.tdiv
      (operand16 (dividing 0x8001 1 0xFFFF) ((dividing 0x8001 1 0xFFFF).place (.reg .bx))).toInt).natAbs ≤ 32767 := by
  unfold State.Quiet; decide

/-- DivideErrors: the smallest quotients that do not fit, unsigned and signed, and a divisor of 0. -/
theorem witness_divide_errors :
    (dividing 0x0100 1 0).Quiet ∧ (dividing 0xFF80 1 0).Quiet ∧ (dividing 0 1 1).Quiet ∧
      (dividing 0x8000 1 0xFFFF).Quiet ∧
    2 ^ 8 * (operand8 (dividing 0x0100 1 0) ((dividing 0x0100 1 0).place (.reg .bl))).toNat ≤
      ((dividing 0x0100 1 0).reg16 .ax).toNat ∧
    127 < (((dividing 0xFF80 1 0).reg16 .ax).toInt.tdiv
      (operand8 (dividing 0xFF80 1 0) ((dividing 0xFF80 1 0).place (.reg .bl))).toInt).natAbs ∧
    2 ^ 16 * (operand16 (dividing 0 1 1) ((dividing 0 1 1).place (.reg .bx))).toNat ≤
      ((dividing 0 1 1).reg16 .dx ++ (dividing 0 1 1).reg16 .ax).toNat ∧
    32767 < (((dividing 0x8000 1 0xFFFF).reg16 .dx ++ (dividing 0x8000 1 0xFFFF).reg16 .ax).toInt.tdiv
      (operand16 (dividing 0x8000 1 0xFFFF) ((dividing 0x8000 1 0xFFFF).place (.reg .bx))).toInt).natAbs ∧
    operand8 standard (standard.place (.reg .bl)) = 0 ∧ operand16 standard (standard.place (.reg .bx)) = 0 := by
  unfold State.Quiet; decide

/-- The standard state with AL and flags. -/
def adjusting (al : Word) (f : Flags) : State :=
  { standard with regs := { standard.regs with ax := al }, flags := f }

/-- DecimalAdjusts: 94 + 65 leaves F9, the largest sum that is promised. -/
theorem witness_daa :
    let s := adjusting 0xF9 { State.reset.flags with sf := true, pf := true }
    Packed 0x94 ∧ Packed 0x65 ∧ (s.reg8 .al).toNat < 0xFA ∧
      Sum true 8 State.reset.flags 0x94 0x65 (s.reg8 .al) s.flags := by
  refine ⟨by unfold Packed; decide, by unfold Packed; decide, by decide, ?_, ?_, ?_, ?_, ⟨?_, ?_, ?_⟩, ?_⟩ <;>
    first | decide | (unfold Signed carryIn; decide) | (unfold Keeps3; decide)

/-- DecimalAdjusts: 0 - 99 with a borrow leaves 66. -/
theorem witness_das :
    let s := adjusting 0x66 { State.reset.flags with cf := true, af := true, pf := true }
    Packed 0x00 ∧ Packed 0x99 ∧
      Diff true 8 { State.reset.flags with cf := true } 0x00 0x99 (s.reg8 .al) s.flags := by
  refine ⟨by unfold Packed; decide, by unfold Packed; decide, ?_, ?_, ?_, ?_, ⟨?_, ?_, ?_⟩, ?_⟩ <;>
    first | decide | (unfold Signed carryIn; decide) | (unfold Keeps3; decide)

/-- Shifts, Rotates and RotatesThroughCarry with a count of FF; ShiftByZero. -/
theorem witness_shift : { standard with regs := { standard.regs with cx := 0xFF } }.Quiet ∧
    { standard with regs := { standard.regs with cx := 0xFF } }.reg8 .cl ≠ 0 ∧
    { standard with regs := { standard.regs with cx := 0xFF00 } }.Quiet ∧
    { standard with regs := { standard.regs with cx := 0xFF00 } }.reg8 .cl = 0 := by
  unfold State.Quiet; decide

/-- Ports: the last pair of ports; Refusals: the port after it. -/
theorem witness_ports : (dividing 0 0 0xFFFE).Quiet ∧ (dividing 0 0 0xFFFE).regs.dx ≠ 0xFFFF ∧
    (dividing 0 0 0xFFFF).regs.dx = 0xFFFF := by
  unfold State.Quiet; decide

/-- StringMoves and StringCompares, without a prefix and with one. -/
theorem witness_iterates : Iterates standard ∧
    Iterates { standard with regs := { standard.regs with cx := 1 }, armed := { standard.armed with rep := some .repne } }
    := by unfold Iterates State.Quiet; decide

/-- RepeatZeroTimes. -/
theorem witness_rep_zero : { standard with armed := { standard.armed with rep := some .rep } }.armed.rep ≠ none ∧
    standard.regs.cx = 0 := by decide

/-- ConditionalJumps: the standard state, with one flag set, or with a value in CX. -/
def flagged (f : Flags → Flags) : Flags := f standard.flags

/-- ConditionalJumps: with no flag set the eight "not" conditions hold and the others fail; each of the others holds
with one flag set, and its opposite fails. -/
theorem witness_conditions :
    (standard.flags.ofl = false ∧ standard.flags.cf = false ∧ standard.flags.zf = false ∧ standard.flags.sf = false ∧
      standard.flags.pf = false) ∧
    (flagged fun f => { f with ofl := true }).ofl = true ∧ (flagged fun f => { f with cf := true }).cf = true ∧
    (flagged fun f => { f with zf := true }).zf = true ∧ (flagged fun f => { f with sf := true }).sf = true ∧
    (flagged fun f => { f with pf := true }).pf = true ∧
    (flagged fun f => { f with ofl := true }).sf ≠ (flagged fun f => { f with ofl := true }).ofl := by decide

/-- ConditionalJumps: `JCXZ` at 0 and 1; the loops leave at CX = 1 and go round at 0 and 2. -/
theorem witness_loops : standard.regs.cx = 0 ∧ (1 : Word) ≠ 0 ∧ (1 : Word) - 1 = 0 ∧ standard.regs.cx - 1 ≠ 0 ∧
    (2 : Word) - 1 ≠ 0 := by decide

/-- JumpsAfterCompare: the flags of 1 - 2, and of the bytes 80 - 80. -/
theorem witness_compare :
    let s := adjusting 0 { State.reset.flags with cf := true, af := true, sf := true, pf := true }
    s.Quiet ∧ Diff false 16 State.reset.flags 1 2 0xFFFF s.flags := by
  refine ⟨⟨rfl, rfl, rfl⟩, ?_, ?_, ?_, ?_, ⟨?_, ?_, ?_⟩, ?_⟩ <;>
    first | decide | (unfold Signed carryIn; decide) | (unfold Keeps3; decide)

theorem witness_compare_bytes :
    let s := adjusting 0 { State.reset.flags with zf := true, pf := true }
    s.Quiet ∧ Diff false 8 State.reset.flags 0x80 0x80 0 s.flags := by
  refine ⟨⟨rfl, rfl, rfl⟩, ?_, ?_, ?_, ?_, ⟨?_, ?_, ?_⟩, ?_⟩ <;>
    first | decide | (unfold Signed carryIn; decide) | (unfold Keeps3; decide)

/-- SoftwareInterrupts: `INTO` with OF = 1 and with OF = 0. -/
theorem witness_into : { standard with flags := { standard.flags with ofl := true } }.Quiet ∧ standard.Quiet ∧
    { standard with flags := { standard.flags with ofl := true } }.flags.ofl = true ∧
    standard.flags.ofl = false := by
  unfold State.Quiet; decide

/-- ReturnUndoesInterrupt: a frame in RAM, and `INTO` with OF = 1. -/
theorem witness_frame : standard.Quiet ∧ FrameInRam standard ∧
    FrameInRam { standard with flags := { standard.flags with ofl := true } } := by
  unfold FrameInRam State.Quiet; decide

/-- ReturnUndoesInterrupt: the state after the sequence of an NMI. -/
theorem witness_interrupted : ∃ t, Interrupted standard t 2 standard.segs.cs standard.ip :=
  ⟨standard.interrupt 2 standard.segs.cs standard.ip, interrupt_interrupted standard ⟨rfl, rfl, rfl⟩ _ _ _⟩

/-- Recognition, its three clauses: NMI; INTR with IF = 1; a single step. -/
theorem witness_recognition :
    Listens { standard with nmiLatch := true } ∧
    (Listens { standard with
        pins := { standard.pins with intr := true }, flags := { standard.flags with ifl := true } } ∧
      IntrDue { standard with
        pins := { standard.pins with intr := true }, flags := { standard.flags with ifl := true } }) ∧
    (Listens { standard with trap := .stepped } ∧ ¬ IntrDue { standard with trap := .stepped }) := by
  unfold Listens IntrDue; decide

/-- Inhibition, its clauses: a shadow; IF = 0; nothing pending; a halt. -/
theorem witness_inhibition : State.reset.unstarted = true ∧ { standard with shadow := .all }.shadow = .all ∧ standard.flags.ifl = false ∧
    (standard.nmiLatch = false ∧ standard.trap = .none ∧ ¬ IntrDue standard) ∧
    ({ standard with halted := true }.script = [] ∧ { standard with halted := true }.midway = none ∧
      { standard with halted := true }.due = none) := by
  unfold IntrDue; decide

/-- BusCession: idle channels and HOLD, nothing granted under #LOCK or with nothing requested, HOLD in minimum mode. -/
theorem witness_cession : (standard.params.mode = .maximum ∧ standard.ch0 = .idle ∧ standard.ch1 = .idle) ∧
    { standard with locked := true }.lockActive = true ∧ { standard with owner := .ext0 }.owner ≠ .cpu ∧
    { standard with stuck := some wordRead }.stuck ≠ none ∧
    (standard.owner = .cpu ∧ standard.stuck = none ∧ standard.point.cedes standard.params = true ∧
      standard.lockActive = false) ∧
    { standard with midway := some ⟨.instr .nop, .insideWord, standard.registers, []⟩ }.point.cedes standard.params = false ∧
    { standard with ch0 := .requested }.ch0 = .requested ∧ { standard with ch1 := .requested }.ch1 = .requested ∧
    { standard with params := { standard.params with mode := .minimum } }.pins.hold = false ∧
    { standard with
        params := { standard.params with mode := .minimum }
        pins := { standard.pins with hold := true } }.lockActive = false := by decide

/-- BusCession: the three grants, the first in preference to the second. -/
theorem test_grants :
    ({ standard with ch0 := .requested, ch1 := .requested }.happen .grant).owner = .ext0 ∧
    ({ standard with ch1 := .requested }.happen .grant).owner = .ext1 ∧
    ({ standard with params := { standard.params with mode := .minimum },
                     pins := { standard.pins with hold := true } }.happen .grant).owner = .hold := by decide

/-- BusCession: the releases, and the two levels NMI can have before it rises. -/
theorem witness_release : { standard with ch0 := .granted, owner := .ext0 }.ch0 = .granted ∧
    { standard with ch1 := .granted, owner := .ext1 }.ch1 = .granted ∧
    { standard with params := { standard.params with mode := .minimum }, owner := .hold }.owner = .hold ∧
    standard.pins.nmi = false ∧ { standard with pins := { standard.pins with nmi := true } }.pins.nmi = true := by decide

/-- WaitHaltEscape: #TEST at 0 and at 1. -/
theorem witness_wait : (standard.Quiet ∧ standard.pins.test = false) ∧
    { standard with pins := { standard.pins with test := true } }.pins.test = true := by
  unfold State.Quiet; decide

end Sys2Proof.Tests
end

/-! The registers and the state after reset (`10_state.md`): the physical address of a segment and an offset as a
number, and what reading and writing half a register is, by whether the half is the low or the high one. -/

namespace Sys2Proof.Machine

/-- The formula of R140 on numbers, its wrap at 2^20 the one of R143. -/
theorem phys_toNat (seg off : Word) : (phys seg off).toNat = (seg.toNat * 2 ^ 4 + off.toNat) % 2 ^ 20 := by
  have hseg : seg.toNat < 2 ^ 16 := seg.isLt
  have hoff : off.toNat < 2 ^ 16 := off.isLt
  simp only [phys, BitVec.toNat_add, BitVec.toNat_shiftLeft, BitVec.toNat_setWidth, Nat.shiftLeft_eq]
  omega

/-- The physical address an offset has in the segment of a register (R140). -/
theorem State.addr_toNat (s : State) (g : SegReg) (off : Word) :
    (s.addr g off).toNat = ((s.segReg g).toNat * 2 ^ 4 + off.toNat) % 2 ^ 20 :=
  phys_toNat _ _

section Halves

variable (g : Regs) {r : Reg8} (v : Byte)

theorem Regs.get8_of_low (h : isHigh r = false) : g.get8 r = (g.get16 (wholeOf r)).extractLsb' 0 8 := by
  simp [Regs.get8, h, lowByte]

theorem Regs.get8_of_high (h : isHigh r = true) : g.get8 r = (g.get16 (wholeOf r)).extractLsb' 8 8 := by
  simp [Regs.get8, h, highByte]

/-- A low half written stands below the high half its register had. -/
theorem Regs.put8_of_low (h : isHigh r = false) :
    g.put8 r v = g.put16 (wholeOf r) ((g.get16 (wholeOf r)).extractLsb' 8 8 ++ v) := by
  simp [Regs.put8, h, wordOf, highByte]

/-- A high half written stands above the low half its register had. -/
theorem Regs.put8_of_high (h : isHigh r = true) :
    g.put8 r v = g.put16 (wholeOf r) (v ++ (g.get16 (wholeOf r)).extractLsb' 0 8) := by
  simp [Regs.put8, h, wordOf, lowByte]

end Halves

end Sys2Proof.Machine

namespace Sys2Proof.Claims

open Machine

/-- Settles O6: CS and IP stand in `State.reset`, and R140 gives FFFFH · 16 + 0000H = FFFF0H, below 2^20. -/
theorem resetStartsAtTop : Obligations.ResetStartsAtTop := by
  have hcs : State.reset.segReg .cs = 0xFFFF := rfl
  have hip : State.reset.ip = 0x0000 := rfl
  refine ⟨hcs, hip, ?_⟩
  rw [State.addr_toNat, hcs, hip]
  rfl

/-- Settles O18, by the two rules of a low half and the two of a high half, each at the four registers that have
halves. -/
theorem byteHalves : Obligations.ByteHalves := by
  intro g v
  refine ⟨?reads, ?writes, ?numbers⟩
  case reads =>
    exact ⟨g.get8_of_low rfl, g.get8_of_high rfl, g.get8_of_low rfl, g.get8_of_high rfl,
      g.get8_of_low rfl, g.get8_of_high rfl, g.get8_of_low rfl, g.get8_of_high rfl⟩
  case writes =>
    exact ⟨g.put8_of_low v rfl, g.put8_of_high v rfl, g.put8_of_low v rfl, g.put8_of_high v rfl,
      g.put8_of_low v rfl, g.put8_of_high v rfl, g.put8_of_low v rfl, g.put8_of_high v rfl⟩
  case numbers => rfl

end Sys2Proof.Claims

/-! ## Addresses, memory and the bus -/

namespace Sys2Proof.Claims

open Machine

/-- Settles O15: the sum below 2^20 that an address is (R140), for a segment register and at the point FFFF:0000. -/
theorem physicalAddress : Obligations.PhysicalAddress := by
  refine ⟨?formula, ?top⟩
  case formula => exact fun s g off => s.addr_toNat g off
  case top =>
    rw [phys_toNat]
    rfl

end Sys2Proof.Claims

/-! ## Processor control

What the five instructions on CF and DF do to the state is an update of FLAGS; that no other part of the state changes
is what the lemmas on `State.setFlags` say, field by field. -/

namespace Sys2Proof.Machine

section FlagInstructions

variable (s : State)

@[simp] theorem exec_clc : exec .clc s = .next (s.setFlags { s.flags with cf := false }) := rfl
@[simp] theorem exec_cmc : exec .cmc s = .next (s.setFlags { s.flags with cf := !s.flags.cf }) := rfl
@[simp] theorem exec_stc : exec .stc s = .next (s.setFlags { s.flags with cf := true }) := rfl
@[simp] theorem exec_cld : exec .cld s = .next (s.setFlags { s.flags with df := false }) := rfl
@[simp] theorem exec_std : exec .std s = .next (s.setFlags { s.flags with df := true }) := rfl

end FlagInstructions

end Sys2Proof.Machine

namespace Sys2Proof.Claims

open Machine

/-- Settles O58: the entries F5H, F8H, F9H, FCH and FDH of the opcode map are instructions of one byte, and each is
executed as an update of FLAGS. -/
theorem flagInstructions : Obligations.FlagInstructions := by
  refine ⟨decodeOp_F8 [], decodeOp_F5 [], decodeOp_F9 [], decodeOp_FC [], decodeOp_FD [], ?effects⟩
  case effects => exact fun s => ⟨exec_clc s, exec_cmc s, exec_stc s, exec_cld s, exec_std s⟩

end Sys2Proof.Claims

/-! ## Decoding and encoding

The decoder undoes the encoder layout by layout: one lemma says how an operand layout reads back, and the case split
over the instructions only names the layout of each. -/

namespace Sys2Proof

section DecodeEncode

variable {i : Instr} {op : Byte} {k : BitVec 3} {g : Byte → List Byte → Parse Instr} (rest : List Byte)

/-- An instruction of an opcode byte and an 8-bit `r/m` operand. -/
theorem decode_of_rm8 {e : RM Reg8} {f : RM Reg8 → Instr} (enc : encode i = op :: encRM Reg8.num k e)
    (dec : ∀ bs, decodeOp op bs = withModRM g bs) (sel : ∀ m bs, regField m = k → g m bs = rm8 f m bs)
    (res : f e = i) (h : e.wf = true) : decode (encode i ++ rest) = some (i, rest) := by
  obtain ⟨m, t, bytes, reg, reads⟩ := encRM8 k e h
  rw [enc, bytes]
  show decodeOp op (m :: t ++ rest) = _
  rw [dec]
  show g m (t ++ rest) = _
  rw [sel m _ reg, rm8, reads, Option.map_some, res]

/-- An instruction of an opcode byte and a 16-bit `r/m` operand. -/
theorem decode_of_rm16 {e : RM Reg16} {f : RM Reg16 → Instr} (enc : encode i = op :: encRM Reg16.num k e)
    (dec : ∀ bs, decodeOp op bs = withModRM g bs) (sel : ∀ m bs, regField m = k → g m bs = rm16 f m bs)
    (res : f e = i) (h : e.wf = true) : decode (encode i ++ rest) = some (i, rest) := by
  obtain ⟨m, t, bytes, reg, reads⟩ := encRM16 k e h
  rw [enc, bytes]
  show decodeOp op (m :: t ++ rest) = _
  rw [dec]
  show g m (t ++ rest) = _
  rw [sel m _ reg, rm16, reads, Option.map_some, res]

/-- An instruction of an opcode byte, an 8-bit `r/m` operand and a register in `reg`. -/
theorem decode_of_rm8reg {e : RM Reg8} {r : Reg8} {f : RM Reg8 → Reg8 → Instr}
    (enc : encode i = op :: encRM Reg8.num r.num e) (dec : ∀ bs, decodeOp op bs = withModRM (rm8reg f) bs)
    (res : f e r = i) (h : e.wf = true) : decode (encode i ++ rest) = some (i, rest) :=
  decode_of_rm8 rest (f := fun e => f e r) enc dec (fun m bs reg => by rw [rm8reg, reg, Reg8.ofNum_num]) res h

/-- An instruction of an opcode byte, a 16-bit `r/m` operand and a register in `reg`. -/
theorem decode_of_rm16reg {e : RM Reg16} {r : Reg16} {f : RM Reg16 → Reg16 → Instr}
    (enc : encode i = op :: encRM Reg16.num r.num e) (dec : ∀ bs, decodeOp op bs = withModRM (rm16reg f) bs)
    (res : f e r = i) (h : e.wf = true) : decode (encode i ++ rest) = some (i, rest) :=
  decode_of_rm16 rest (f := fun e => f e r) enc dec (fun m bs reg => by rw [rm16reg, reg, Reg16.ofNum_num]) res h

/-- An 8-bit `r/m` operand and an immediate byte after it. -/
theorem decode_of_rm8imm {e : RM Reg8} {v : Byte} {f : RM Reg8 → Byte → Instr}
    (enc : encode i = op :: (encRM Reg8.num k e ++ [v])) (dec : ∀ bs, decodeOp op bs = withModRM g bs)
    (sel : ∀ m bs, regField m = k → g m bs = rm8imm f m bs) (res : f e v = i) (h : e.wf = true) :
    decode (encode i ++ rest) = some (i, rest) := by
  obtain ⟨m, t, bytes, reg, reads⟩ := encRM8 k e h
  rw [enc, bytes]
  show decodeOp op (m :: (t ++ [v]) ++ rest) = _
  rw [dec]
  show g m (t ++ [v] ++ rest) = _
  rw [sel m _ reg, rm8imm, List.append_assoc, reads]
  exact congrArg (fun j => some (j, rest)) res

/-- A 16-bit `r/m` operand and an immediate byte after it. -/
theorem decode_of_rm16simm {e : RM Reg16} {v : Byte} {f : RM Reg16 → Byte → Instr}
    (enc : encode i = op :: (encRM Reg16.num k e ++ [v])) (dec : ∀ bs, decodeOp op bs = withModRM g bs)
    (sel : ∀ m bs, regField m = k → g m bs = rm16simm f m bs) (res : f e v = i) (h : e.wf = true) :
    decode (encode i ++ rest) = some (i, rest) := by
  obtain ⟨m, t, bytes, reg, reads⟩ := encRM16 k e h
  rw [enc, bytes]
  show decodeOp op (m :: (t ++ [v]) ++ rest) = _
  rw [dec]
  show g m (t ++ [v] ++ rest) = _
  rw [sel m _ reg, rm16simm, List.append_assoc, reads]
  exact congrArg (fun j => some (j, rest)) res

/-- A 16-bit `r/m` operand and an immediate word after it. -/
theorem decode_of_rm16imm {e : RM Reg16} {v : Word} {f : RM Reg16 → Word → Instr}
    (enc : encode i = op :: (encRM Reg16.num k e ++ encWord v)) (dec : ∀ bs, decodeOp op bs = withModRM g bs)
    (sel : ∀ m bs, regField m = k → g m bs = rm16imm f m bs) (res : f e v = i) (h : e.wf = true) :
    decode (encode i ++ rest) = some (i, rest) := by
  obtain ⟨m, t, bytes, reg, reads⟩ := encRM16 k e h
  rw [enc, bytes]
  show decodeOp op (m :: (t ++ encWord v) ++ rest) = _
  rw [dec]
  show g m (t ++ encWord v ++ rest) = _
  rw [sel m _ reg, rm16imm, List.append_assoc, reads]
  simp [withWord, encWord, res]

/-- An instruction of an opcode byte and a memory operand. -/
theorem decode_of_mem {x : MemOp} {f : MemOp → Instr} (enc : encode i = op :: encMem k x)
    (dec : ∀ bs, decodeOp op bs = withModRM g bs) (sel : ∀ m bs, regField m = k → g m bs = memOnly op f m bs)
    (res : f x = i) (h : x.wf = true) : decode (encode i ++ rest) = some (i, rest) := by
  rw [enc]
  show decodeOp op (x.modrm k :: x.tail ++ rest) = _
  rw [dec]
  show g (x.modrm k) (x.tail ++ rest) = _
  rw [sel _ _ (by simp), memOnly, if_neg (by simp), takeMem_enc k x rest h, Option.map_some, res]

/-- `ESC` has three bits of its operand in the opcode byte and three in `reg` (R512). -/
theorem decodeOp_esc (hi : BitVec 3) (bs : List Byte) : decodeOp (opReg 0x1B#5 hi) bs =
    withModRM (fun m => rm16 (.esc (hi ++ regField m)) m) bs := by
  have cases8 : ∀ n : BitVec 3, n = 0 ∨ n = 1 ∨ n = 2 ∨ n = 3 ∨ n = 4 ∨ n = 5 ∨ n = 6 ∨ n = 7 := by decide
  rcases cases8 hi with rfl | rfl | rfl | rfl | rfl | rfl | rfl | rfl <;> rfl

/-- The `reg` field of `MOV r/m16, sreg` is a segment register below a 0 (R274). -/
theorem movSreg_of_reg (m : Byte) (s : SegReg) (bs : List Byte) (h : regField m = 0#1 ++ s.num) :
    movSreg m bs = rm16 (fun e => .movRm16Sreg e s) m bs := by
  have fields : ∀ m : Byte, ∀ n : BitVec 2, regField m = 0#1 ++ n → m.getLsbD 5 = false ∧ m.extractLsb' 3 2 = n := by
    decide
  obtain ⟨clear, reg⟩ := fields m _ h
  simp only [movSreg, clear, reg, Bool.false_eq_true, if_false, SegReg.ofNum_num]

/-- A byte Intel does not use alone is `notUsed` (R275 (a)). -/
theorem decodeOp_lone (h : op ∈ loneUnusedOps) : decodeOp op rest = some (.notUsed op 0, rest) := by
  simp only [loneUnusedOps, List.mem_append, List.mem_cons, List.not_mem_nil, or_false] at h
  rcases h with (rfl|rfl|rfl|rfl|rfl|rfl|rfl|rfl|rfl|rfl|rfl|rfl|rfl|rfl|rfl|rfl|rfl)|(rfl|rfl|rfl|rfl|rfl|rfl|rfl)
    <;> rfl

theorem regField_toNat (m : Byte) : m.toNat / 8 % 8 = (regField m).toNat := by revert m; decide

theorem modField_toNat (m : Byte) : m.toNat / 64 = (modField m).toNat := by revert m; decide

/-- The opcode byte with a number. -/
theorem opcode_of_toNat {n : Nat} (h : op.toNat = n) : op = BitVec.ofNat 8 n := by
  subst h
  simp

/-- Where `reg` is 4 or more, bit 5 of a ModRM byte is set. -/
theorem getLsbD_five_of_reg (m : Byte) (h : 4 ≤ (regField m).toNat) : m.getLsbD 5 = true := by
  revert m; decide

/-- A second byte Intel does not use makes `notUsed`, which keeps it (R275 (b) to (e)). -/
theorem decodeOp_pair (next : Byte) (h : pairUnused op next = true) :
    decodeOp op (next :: rest) = some (.notUsed op next, rest) ∧ op ∉ loneUnusedOps := by
  simp only [pairUnused, regField_toNat, modField_toNat] at h
  split at h
  case h_21 => simp at h
  all_goals
    rename_i hop
    obtain rfl := opcode_of_toNat hop
    refine ⟨?_, by decide⟩
    simp only [decodeOp_82, decodeOp_83, decodeOp_8C, decodeOp_8D, decodeOp_8E, decodeOp_8F, decodeOp_C4, decodeOp_C5,
      decodeOp_C6, decodeOp_C7, decodeOp_D0, decodeOp_D1, decodeOp_D2, decodeOp_D3, decodeOp_D4, decodeOp_D5,
      decodeOp_F6, decodeOp_F7, decodeOp_FE, decodeOp_FF, withModRM]
    rw [decide_eq_true_eq] at h
  case h_3 => simp only [movSreg, getLsbD_five_of_reg next h, if_true, unused]
  case h_5 | h_6 | h_7 =>
    have register : modField next = 3#2 := BitVec.eq_of_toNat_eq h
    rw [memReg, memOnly, if_pos register]
  case h_15 | h_16 =>
    have other : next ≠ 0x0A#8 := fun e => h (by rw [e]; rfl)
    rw [withTen, if_neg other, unused]
  case h_20 =>
    have register : (modField next).toNat = 3 → modField next = 3#2 := fun e => BitVec.eq_of_toNat_eq e
    unfold groupFF
    split <;> simp_all [unused, memOnly]
  all_goals
    simp only [group82, group83, group8E, group8F, groupC6, groupC7, groupD0, groupD1, groupD2, groupD3,
      groupF6, groupF7, groupFE]
    split <;> simp_all [unused]

/-- The two halves of the six bits of `ESC` (R512). -/
theorem esc_code (x : BitVec 6) : x.extractLsb' 3 3 ++ x.extractLsb' 0 3 = x := by revert x; decide

end DecodeEncode

/-- Settles O2: each instruction by the layout of its bytes (R260 to R274). -/
theorem decodeOfEncode : Obligations.DecodeOfEncode := by
  intro i rest h
  cases i with
  | addAlImm8 v | orAlImm8 v | adcAlImm8 v | sbbAlImm8 v | andAlImm8 v | subAlImm8 v | xorAlImm8 v | cmpAlImm8 v
  | pushEs | pushCs | pushSs | pushDs | popEs | popSs | popDs | xlat | lahf | sahf | pushf | popf | inAlImm8 p
  | inAxImm8 p | inAlDx | inAxDx | outImm8Al p | outImm8Ax p | outDxAl | outDxAx | aaa | daa | aas | das | aam
  | aad | cbw | cwd | testAlImm8 v | movsb | movsw | cmpsb | cmpsw | stosb | stosw | lodsb | lodsw | scasb | scasw
  | repne | rep | jmpRel8 d | retNear | retFar | jo d | jno d | jb d | jnb d | je d | jne d | jbe d | jnbe d | js d
  | jns d | jp d | jnp d | jl d | jnl d | jle d | jnle d | loop d | loope d | loopne d | jcxz d | intN n | int3
  | into | iret | clc | cmc | stc | cld | std | cli | sti | nop | esOverride | csOverride | ssOverride | dsOverride
  | lock | wait | hlt =>
    rfl
  | addAxImm16 v | orAxImm16 v | adcAxImm16 v | sbbAxImm16 v | andAxImm16 v | subAxImm16 v | xorAxImm16 v
  | cmpAxImm16 v | movAlMoffs a | movAxMoffs a | movMoffsAl a | movMoffsAx a | testAxImm16 v | callRel16 d
  | callFar off seg | jmpRel16 d | jmpFar off seg | retNearImm16 v | retFarImm16 v =>
    simp [encode, decode, encWord, withWord, withPtr]
  | pushR16 r | popR16 r | movR8Imm8 r v | movR16Imm16 r v | xchgAxR16 r | incR16 r | decR16 r =>
    simp_all [encode, decode, encWord, withWord, bare, withByte, Instr.wf]
  | addRm8R8 e r | addR8Rm8 r e | orRm8R8 e r | orR8Rm8 r e | adcRm8R8 e r | adcR8Rm8 r e | sbbRm8R8 e r
  | sbbR8Rm8 r e | andRm8R8 e r | andR8Rm8 r e | subRm8R8 e r | subR8Rm8 r e | xorRm8R8 e r | xorR8Rm8 r e
  | cmpRm8R8 e r | cmpR8Rm8 r e | movRm8R8 e r | movR8Rm8 r e | xchgR8Rm8 r e | testRm8R8 e r =>
    exact decode_of_rm8reg rest rfl (fun _ => rfl) rfl h
  | addRm16R16 e r | addR16Rm16 r e | orRm16R16 e r | orR16Rm16 r e | adcRm16R16 e r | adcR16Rm16 r e
  | sbbRm16R16 e r | sbbR16Rm16 r e | andRm16R16 e r | andR16Rm16 r e | subRm16R16 e r | subR16Rm16 r e
  | xorRm16R16 e r | xorR16Rm16 r e | cmpRm16R16 e r | cmpR16Rm16 r e | movRm16R16 e r | movR16Rm16 r e
  | xchgR16Rm16 r e | testRm16R16 e r =>
    exact decode_of_rm16reg rest rfl (fun _ => rfl) rfl h
  | incRm8 e | decRm8 e | negRm8 e | mulRm8 e | imulRm8 e | divRm8 e | idivRm8 e | notRm8 e | rolRm8One e
  | rolRm8Cl e | rorRm8One e | rorRm8Cl e | rclRm8One e | rclRm8Cl e | rcrRm8One e | rcrRm8Cl e | shlRm8One e
  | shlRm8Cl e | shrRm8One e | shrRm8Cl e | sarRm8One e | sarRm8Cl e =>
    exact decode_of_rm8 rest rfl (fun _ => rfl)
      (fun m bs reg => by simp [groupD0, groupD2, groupF6, groupFE, reg]) rfl h
  | pushRm16 e | popRm16 e | movEsRm16 e | movSsRm16 e | movDsRm16 e | incRm16 e | decRm16 e | negRm16 e
  | mulRm16 e | imulRm16 e | divRm16 e | idivRm16 e | notRm16 e | rolRm16One e | rolRm16Cl e | rorRm16One e
  | rorRm16Cl e | rclRm16One e | rclRm16Cl e | rcrRm16One e | rcrRm16Cl e | shlRm16One e | shlRm16Cl e
  | shrRm16One e | shrRm16Cl e | sarRm16One e | sarRm16Cl e | callRm16 e | jmpRm16 e =>
    exact decode_of_rm16 rest rfl (fun _ => rfl)
      (fun m bs reg => by simp [group8E, group8F, groupD1, groupD3, groupF7, groupFF, reg]) rfl h
  | addRm8Imm8 e v | orRm8Imm8 e v | adcRm8Imm8 e v | sbbRm8Imm8 e v | andRm8Imm8 e v | subRm8Imm8 e v
  | xorRm8Imm8 e v | cmpRm8Imm8 e v | addRm8Imm8Alt e v | adcRm8Imm8Alt e v | sbbRm8Imm8Alt e v | subRm8Imm8Alt e v
  | cmpRm8Imm8Alt e v | movRm8Imm8 e v | testRm8Imm8 e v =>
    exact decode_of_rm8imm rest rfl (fun _ => rfl)
      (fun m bs reg => by simp [group80, group82, groupC6, groupF6, reg]) rfl h
  | addRm16Imm16 e v | orRm16Imm16 e v | adcRm16Imm16 e v | sbbRm16Imm16 e v | andRm16Imm16 e v | subRm16Imm16 e v
  | xorRm16Imm16 e v | cmpRm16Imm16 e v | movRm16Imm16 e v | testRm16Imm16 e v =>
    exact decode_of_rm16imm rest rfl (fun _ => rfl)
      (fun m bs reg => by simp [group81, groupC7, groupF7, reg]) rfl h
  | addRm16Simm8 e v | adcRm16Simm8 e v | sbbRm16Simm8 e v | subRm16Simm8 e v | cmpRm16Simm8 e v =>
    exact decode_of_rm16simm rest rfl (fun _ => rfl)
      (fun m bs reg => by simp [group83, reg]) rfl h
  | lea r m | lds r m | les r m =>
    exact decode_of_mem rest rfl (fun _ => rfl) (fun m bs reg => by simp [memReg, reg]) rfl h
  | callFarM m | jmpFarM m =>
    exact decode_of_mem rest rfl (fun _ => rfl)
      (fun m bs reg => by simp [groupFF, reg]) rfl h
  | movRm16Sreg e g =>
    exact decode_of_rm16 rest rfl (fun _ => rfl) (fun m bs reg => movSreg_of_reg m g bs reg) rfl h
  | esc x e =>
    exact decode_of_rm16 rest rfl (decodeOp_esc _)
      (fun m bs reg => by rw [reg]; exact congrArg (fun y => rm16 (.esc y) m bs) (esc_code x)) rfl h
  | notUsed op next =>
    rw [Instr.wf, Bool.or_eq_true, Bool.and_eq_true, decide_eq_true_eq, decide_eq_true_eq] at h
    rcases h with ⟨lone, rfl⟩ | pair
    · simp [encode, decode, loneUnused, lone, decodeOp_lone]
    · simp [encode, decode, loneUnused, decodeOp_pair rest next pair]

end Sys2Proof

/-! ## What the decoder reads

Each layout of the decoder reads well-formed operands, and its bytes are the ones their encoding has; the case split
over the opcode map then only names the encoding of each entry. -/

namespace Sys2Proof

/-- What a layout reads after an opcode byte is a well-formed instruction, and the bytes read are its bytes; five bytes
are enough for it. -/
structure Reads (op : Byte) (p : List Byte → Parse Instr) : Prop where
  exact : ∀ bs i rest, p bs = some (i, rest) → i.wf = true ∧ op :: bs = encode i ++ rest
  enough : ∀ bs, 5 ≤ bs.length → (p bs).isSome = true

/-- What is read after an opcode byte and a ModRM byte is a well-formed instruction with these bytes; four bytes are
enough for it. -/
structure ReadsAfter (op m : Byte) (p : List Byte → Parse Instr) : Prop where
  exact : ∀ bs i rest, p bs = some (i, rest) → i.wf = true ∧ op :: m :: bs = encode i ++ rest
  enough : ∀ bs, 4 ≤ bs.length → (p bs).isSome = true

section Layouts

variable {op m : Byte} {k : BitVec 3}

theorem takeWord_eq_some {bs rest : List Byte} {v : Word} (h : takeWord bs = some (v, rest)) :
    bs = encWord v ++ rest := by
  match bs with
  | [] | [_] => simp [takeWord] at h
  | lo :: hi :: bs =>
    simp only [takeWord, Option.some.injEq, Prod.mk.injEq] at h
    obtain ⟨rfl, rfl⟩ := h
    simp [encWord]

/-- A memory operand read is well-formed, and its fields and displacement are the bytes read. -/
theorem takeMem_eq_some {bs rest : List Byte} {x : MemOp} (hm : modField m ≠ 3#2)
    (h : takeMem (modField m) (rmField m) bs = some (x, rest)) :
    x.wf = true ∧ m = x.modrm (regField m) ∧ bs = x.tail ++ rest := by
  have fields := modRM_fields m
  have two : ∀ n : BitVec 2, n ≠ 3#2 → n = 0#2 ∨ n = 1#2 ∨ n = 2#2 := by decide
  rcases two _ hm with md | md | md <;> rw [md] at h fields
  · by_cases direct : rmField m = 6#3
    · simp only [takeMem, if_pos direct, Option.map_eq_some_iff, Prod.mk.injEq] at h
      obtain ⟨⟨v, r⟩, word, rfl, rfl⟩ := h
      rw [direct] at fields
      exact ⟨rfl, fields.symm, takeWord_eq_some word⟩
    · simp only [takeMem, if_neg direct, Option.some.injEq, Prod.mk.injEq] at h
      obtain ⟨rfl, rfl⟩ := h
      have nbp : Base.ofNum (rmField m) ≠ .bp := fun e => direct (by rw [← Base.num_ofNum (rmField m), e]; rfl)
      exact ⟨by simp [MemOp.wf, nbp], by simp [MemOp.modrm, fields], rfl⟩
  · match bs with
    | [] => simp [takeMem] at h
    | d :: bs =>
      simp only [takeMem, Option.some.injEq, Prod.mk.injEq] at h
      obtain ⟨rfl, rfl⟩ := h
      exact ⟨rfl, by simp [MemOp.modrm, fields], rfl⟩
  · rw [show takeMem 2#2 (rmField m) bs =
      (takeWord bs).map fun p => (.based (Base.ofNum (rmField m)) (.d16 p.1), p.2) from rfl] at h
    simp only [Option.map_eq_some_iff, Prod.mk.injEq] at h
    obtain ⟨⟨v, r⟩, word, rfl, rfl⟩ := h
    exact ⟨rfl, by simp [MemOp.modrm, fields], takeWord_eq_some word⟩

/-- An `r/m` operand read is well-formed, and its encoding with the `reg` field of the ModRM byte is the bytes read. -/
theorem takeRM_eq_some {ρ : Type} {num : ρ → BitVec 3} {ofNum : BitVec 3 → ρ} (inv : ∀ n, num (ofNum n) = n)
    {bs rest : List Byte} {e : RM ρ} (h : takeRM ofNum m bs = some (e, rest)) :
    e.wf = true ∧ m :: bs = encRM num (regField m) e ++ rest := by
  unfold takeRM at h
  split at h
  case isTrue register =>
    simp only [Option.some.injEq, Prod.mk.injEq] at h
    obtain ⟨rfl, rfl⟩ := h
    have fields := modRM_fields m
    rw [register] at fields
    exact ⟨rfl, by simp [encRM, inv, fields]⟩
  case isFalse memory =>
    simp only [Option.map_eq_some_iff, Prod.mk.injEq] at h
    obtain ⟨⟨x, r⟩, mem, rfl, rfl⟩ := h
    obtain ⟨wf, first, tail⟩ := takeMem_eq_some memory mem
    exact ⟨wf, by rw [encRM, encMem, ← first, tail, List.cons_append]⟩

theorem takeWord_enough {bs : List Byte} (long : 2 ≤ bs.length) :
    ∃ v r, takeWord bs = some (v, r) ∧ bs.length = r.length + 2 := by
  match bs with
  | lo :: hi :: bs => exact ⟨_, bs, rfl, rfl⟩

theorem takeMem_of_long {md : BitVec 2} {rm : BitVec 3} {bs : List Byte} (long : 2 ≤ bs.length) :
    ∃ x r, takeMem md rm bs = some (x, r) ∧ bs.length ≤ r.length + 2 := by
  match bs with
  | a :: b :: bs =>
    obtain ⟨x, r, h, left⟩ := takeMem_enough md rm a b bs
    exact ⟨x, r, h, by simp only [List.length_cons]; omega⟩

theorem takeRM_enough {ρ : Type} (ofNum : BitVec 3 → ρ) {bs : List Byte} (long : 2 ≤ bs.length) :
    ∃ e r, takeRM ofNum m bs = some (e, r) ∧ bs.length ≤ r.length + 2 := by
  unfold takeRM
  split
  case isTrue => exact ⟨_, bs, rfl, by omega⟩
  case isFalse =>
    obtain ⟨x, r, h, left⟩ := takeMem_of_long (md := modField m) (rm := rmField m) long
    exact ⟨.mem x, r, by rw [h]; rfl, left⟩

theorem reads_bare {i : Instr} (enc : encode i = [op]) (wf : i.wf = true) : Reads op (bare i) := by
  refine ⟨fun bs j rest h => ?_, fun bs long => ?_⟩
  · simp only [bare, Option.some.injEq, Prod.mk.injEq] at h
    obtain ⟨rfl, rfl⟩ := h
    exact ⟨wf, by simp [enc]⟩
  · rfl

theorem reads_withByte {f : Byte → Instr} (enc : ∀ v, encode (f v) = [op, v]) (wf : ∀ v, (f v).wf = true) :
    Reads op (withByte f) := by
  refine ⟨fun bs j rest h => ?_, fun bs long => ?_⟩
  · match bs with
    | [] => simp [withByte] at h
    | v :: bs =>
      simp only [withByte, Option.some.injEq, Prod.mk.injEq] at h
      obtain ⟨rfl, rfl⟩ := h
      exact ⟨wf v, by simp [enc]⟩
  · match bs with
    | v :: bs => rfl

theorem reads_withWord {f : Word → Instr} (enc : ∀ v, encode (f v) = op :: encWord v) (wf : ∀ v, (f v).wf = true) :
    Reads op (withWord f) := by
  refine ⟨fun bs j rest h => ?_, fun bs long => ?_⟩
  · simp only [withWord, Option.map_eq_some_iff, Prod.mk.injEq] at h
    obtain ⟨⟨v, r⟩, word, rfl, rfl⟩ := h
    exact ⟨wf v, by rw [enc, takeWord_eq_some word, List.cons_append]⟩
  · obtain ⟨v, r, h, -⟩ := takeWord_enough (bs := bs) (by omega)
    simp [withWord, h]

theorem reads_withPtr {f : Word → Word → Instr} (enc : ∀ v w, encode (f v w) = op :: (encWord v ++ encWord w))
    (wf : ∀ v w, (f v w).wf = true) : Reads op (withPtr f) := by
  refine ⟨fun bs j rest h => ?_, fun bs long => ?_⟩
  · simp only [withPtr, Option.bind_eq_some_iff, Option.map_eq_some_iff, Prod.mk.injEq] at h
    obtain ⟨⟨v, r⟩, first, ⟨w, r'⟩, second, rfl, rfl⟩ := h
    have tail : r = encWord w ++ r' := takeWord_eq_some second
    exact ⟨wf v w, by rw [enc, takeWord_eq_some first, tail]; simp⟩
  · obtain ⟨v, r, h, left⟩ := takeWord_enough (bs := bs) (by omega)
    obtain ⟨w, r', h', -⟩ := takeWord_enough (bs := r) (by omega)
    simp [withPtr, h, h']

theorem reads_withModRM {g : Byte → List Byte → Parse Instr} (h : ∀ m, ReadsAfter op m (g m)) :
    Reads op (withModRM g) := by
  refine ⟨fun bs i rest e => ?_, fun bs long => ?_⟩
  · match bs with
    | [] => simp [withModRM] at e
    | m :: bs => exact (h m).exact bs i rest e
  · match bs with
    | m :: bs => exact (h m).enough bs (by simpa using long)

theorem reads_rm8 {f : RM Reg8 → Instr} (enc : ∀ e, encode (f e) = op :: encRM Reg8.num k e)
    (wf : ∀ e, (f e).wf = e.wf) (reg : regField m = k) : ReadsAfter op m (rm8 f m) := by
  refine ⟨fun bs i rest h => ?_, fun bs long => ?_⟩
  · simp only [rm8, Option.map_eq_some_iff, Prod.mk.injEq] at h
    obtain ⟨⟨e, r⟩, operand, rfl, rfl⟩ := h
    obtain ⟨hwf, bytes⟩ := takeRM_eq_some Reg8.num_ofNum operand
    exact ⟨(wf e).trans hwf, by rw [enc, bytes, reg, List.cons_append]⟩
  · obtain ⟨e, r, h, -⟩ := takeRM_enough (m := m) Reg8.ofNum (bs := bs) (by omega)
    simp [rm8, h]

theorem reads_rm16 {f : RM Reg16 → Instr} (enc : ∀ e, encode (f e) = op :: encRM Reg16.num k e)
    (wf : ∀ e, (f e).wf = e.wf) (reg : regField m = k) : ReadsAfter op m (rm16 f m) := by
  refine ⟨fun bs i rest h => ?_, fun bs long => ?_⟩
  · simp only [rm16, Option.map_eq_some_iff, Prod.mk.injEq] at h
    obtain ⟨⟨e, r⟩, operand, rfl, rfl⟩ := h
    obtain ⟨hwf, bytes⟩ := takeRM_eq_some Reg16.num_ofNum operand
    exact ⟨(wf e).trans hwf, by rw [enc, bytes, reg, List.cons_append]⟩
  · obtain ⟨e, r, h, -⟩ := takeRM_enough (m := m) Reg16.ofNum (bs := bs) (by omega)
    simp [rm16, h]

theorem reads_rm8reg {f : RM Reg8 → Reg8 → Instr} (enc : ∀ e r, encode (f e r) = op :: encRM Reg8.num r.num e)
    (wf : ∀ e r, (f e r).wf = e.wf) : Reads op (withModRM (rm8reg f)) :=
  reads_withModRM fun _ => reads_rm8 (fun e => enc e _) (fun e => wf e _) (Reg8.num_ofNum _).symm

theorem reads_rm16reg {f : RM Reg16 → Reg16 → Instr} (enc : ∀ e r, encode (f e r) = op :: encRM Reg16.num r.num e)
    (wf : ∀ e r, (f e r).wf = e.wf) : Reads op (withModRM (rm16reg f)) :=
  reads_withModRM fun _ => reads_rm16 (fun e => enc e _) (fun e => wf e _) (Reg16.num_ofNum _).symm

theorem reads_rm8imm {f : RM Reg8 → Byte → Instr} (enc : ∀ e v, encode (f e v) = op :: (encRM Reg8.num k e ++ [v]))
    (wf : ∀ e v, (f e v).wf = e.wf) (reg : regField m = k) : ReadsAfter op m (rm8imm f m) := by
  refine ⟨fun bs i rest h => ?_, fun bs long => ?_⟩
  · simp only [rm8imm, Option.bind_eq_some_iff] at h
    obtain ⟨⟨e, r⟩, operand, imm⟩ := h
    obtain ⟨hwf, bytes⟩ := takeRM_eq_some Reg8.num_ofNum operand
    match r with
    | [] => simp [withByte] at imm
    | v :: r =>
      simp only [withByte, Option.some.injEq, Prod.mk.injEq] at imm
      obtain ⟨rfl, rfl⟩ := imm
      exact ⟨(wf e v).trans hwf, by rw [enc, bytes, reg]; simp⟩
  · obtain ⟨e, r, h, left⟩ := takeRM_enough (m := m) Reg8.ofNum (bs := bs) (by omega)
    match r with
    | [] => simp only [List.length_nil] at left; omega
    | v :: r => simp [rm8imm, h, withByte]

theorem reads_rm16simm {f : RM Reg16 → Byte → Instr}
    (enc : ∀ e v, encode (f e v) = op :: (encRM Reg16.num k e ++ [v])) (wf : ∀ e v, (f e v).wf = e.wf)
    (reg : regField m = k) : ReadsAfter op m (rm16simm f m) := by
  refine ⟨fun bs i rest h => ?_, fun bs long => ?_⟩
  · simp only [rm16simm, Option.bind_eq_some_iff] at h
    obtain ⟨⟨e, r⟩, operand, imm⟩ := h
    obtain ⟨hwf, bytes⟩ := takeRM_eq_some Reg16.num_ofNum operand
    match r with
    | [] => simp [withByte] at imm
    | v :: r =>
      simp only [withByte, Option.some.injEq, Prod.mk.injEq] at imm
      obtain ⟨rfl, rfl⟩ := imm
      exact ⟨(wf e v).trans hwf, by rw [enc, bytes, reg]; simp⟩
  · obtain ⟨e, r, h, left⟩ := takeRM_enough (m := m) Reg16.ofNum (bs := bs) (by omega)
    match r with
    | [] => simp only [List.length_nil] at left; omega
    | v :: r => simp [rm16simm, h, withByte]

theorem reads_rm16imm {f : RM Reg16 → Word → Instr}
    (enc : ∀ e v, encode (f e v) = op :: (encRM Reg16.num k e ++ encWord v)) (wf : ∀ e v, (f e v).wf = e.wf)
    (reg : regField m = k) : ReadsAfter op m (rm16imm f m) := by
  refine ⟨fun bs i rest h => ?_, fun bs long => ?_⟩
  · simp only [rm16imm, Option.bind_eq_some_iff, withWord, Option.map_eq_some_iff, Prod.mk.injEq] at h
    obtain ⟨⟨e, r⟩, operand, ⟨v, r'⟩, imm, rfl, rfl⟩ := h
    obtain ⟨hwf, bytes⟩ := takeRM_eq_some Reg16.num_ofNum operand
    have tail : r = encWord v ++ r' := takeWord_eq_some imm
    exact ⟨(wf e v).trans hwf, by rw [enc, bytes, reg, tail]; simp⟩
  · obtain ⟨e, r, h, left⟩ := takeRM_enough (m := m) Reg16.ofNum (bs := bs) (by omega)
    obtain ⟨v, r', h', -⟩ := takeWord_enough (bs := r) (by omega)
    simp [rm16imm, h, withWord, h']

theorem reads_unused (bad : pairUnused op m = true) (used : op ∉ loneUnusedOps) : ReadsAfter op m (unused op m) := by
  refine ⟨fun bs i rest h => ?_, fun bs long => ?_⟩
  · simp only [unused, Option.some.injEq, Prod.mk.injEq] at h
    obtain ⟨rfl, rfl⟩ := h
    exact ⟨by simp [Instr.wf, bad], by simp [encode, loneUnused, used]⟩
  · rfl

theorem reads_memOnly {f : MemOp → Instr} (enc : ∀ x, encode (f x) = op :: encMem k x)
    (wf : ∀ x, (f x).wf = x.wf) (reg : regField m = k) (bad : modField m = 3#2 → pairUnused op m = true)
    (used : op ∉ loneUnusedOps) : ReadsAfter op m (memOnly op f m) := by
  refine ⟨fun bs i rest h => ?_, fun bs long => ?_⟩
  · unfold memOnly at h
    split at h
    case isTrue register => exact (reads_unused (bad register) used).exact bs i rest h
    case isFalse memory =>
      simp only [Option.map_eq_some_iff, Prod.mk.injEq] at h
      obtain ⟨⟨x, r⟩, mem, rfl, rfl⟩ := h
      obtain ⟨hwf, first, tail⟩ := takeMem_eq_some memory mem
      exact ⟨(wf x).trans hwf, by rw [enc, encMem, ← reg, ← first, tail]; simp⟩
  · obtain ⟨x, r, h, -⟩ := takeMem_of_long (md := modField m) (rm := rmField m) (bs := bs) (by omega)
    unfold memOnly
    split
    case isTrue => rfl
    case isFalse => rw [h]; rfl

theorem reads_memReg {f : Reg16 → MemOp → Instr} (enc : ∀ r x, encode (f r x) = op :: encMem r.num x)
    (wf : ∀ r x, (f r x).wf = x.wf) (bad : ∀ m, modField m = 3#2 → pairUnused op m = true)
    (used : op ∉ loneUnusedOps) : Reads op (withModRM (memReg op f)) :=
  reads_withModRM fun m => reads_memOnly (fun x => enc _ x) (fun x => wf _ x) (Reg16.num_ofNum _).symm (bad m) used

theorem reads_withTen {i : Instr} (enc : encode i = [op, 0x0A]) (wf : i.wf = true)
    (bad : ∀ m, m ≠ 0x0A#8 → pairUnused op m = true) (used : op ∉ loneUnusedOps) :
    Reads op (withModRM (withTen op i)) := by
  refine reads_withModRM fun m => ⟨fun bs j rest h => ?_, fun bs _ => ?_⟩
  · unfold withTen at h
    split at h
    case isTrue ten =>
      simp only [Option.some.injEq, Prod.mk.injEq] at h
      obtain ⟨rfl, rfl⟩ := h
      exact ⟨wf, by simp [enc, ten]⟩
    case isFalse other => exact (reads_unused (bad m other) used).exact bs j rest h
  · unfold withTen
    split
    case isTrue => rfl
    case isFalse => rfl

/-- The six bits of the code of `ESC` stand in the opcode and in the `reg` field. -/
theorem reads_esc (hi : BitVec 3) : Reads (opReg 0x1B#5 hi) (withModRM fun m => rm16 (.esc (hi ++ regField m)) m) := by
  have high : ∀ (a b : BitVec 3), (a ++ b).extractLsb' 3 3 = a := by decide
  have low : ∀ (a b : BitVec 3), (a ++ b).extractLsb' 0 3 = b := by decide
  exact reads_withModRM fun m => reads_rm16 (fun e => by rw [encode, high, low]; rfl) (fun _ => rfl) rfl

end Layouts

section Groups

variable (m : Byte)

/-- The last line of a group is the `reg` field that no other line has. -/
theorem regField_eq_seven (h0 : regField m ≠ 0#3) (h1 : regField m ≠ 1#3) (h2 : regField m ≠ 2#3)
    (h3 : regField m ≠ 3#3) (h4 : regField m ≠ 4#3) (h5 : regField m ≠ 5#3) (h6 : regField m ≠ 6#3) :
    regField m = 7#3 := by
  generalize regField m = n at *
  bv_omega

theorem reads_group80 : ReadsAfter 0x80 m (group80 m) := by
  unfold group80
  split
  case h_1 | h_2 | h_3 | h_4 | h_5 | h_6 | h_7 => exact reads_rm8imm (fun _ _ => rfl) (fun _ _ => rfl) ‹_›
  case h_8 h0 h1 h2 h3 h4 h5 h6 =>
    exact reads_rm8imm (fun _ _ => rfl) (fun _ _ => rfl) (regField_eq_seven m h0 h1 h2 h3 h4 h5 h6)

theorem reads_group81 : ReadsAfter 0x81 m (group81 m) := by
  unfold group81
  split
  case h_1 | h_2 | h_3 | h_4 | h_5 | h_6 | h_7 => exact reads_rm16imm (fun _ _ => rfl) (fun _ _ => rfl) ‹_›
  case h_8 h0 h1 h2 h3 h4 h5 h6 =>
    exact reads_rm16imm (fun _ _ => rfl) (fun _ _ => rfl) (regField_eq_seven m h0 h1 h2 h3 h4 h5 h6)

theorem reads_group82 : ReadsAfter 0x82 m (group82 m) := by
  unfold group82
  split
  case h_1 | h_2 | h_3 | h_4 | h_5 => exact reads_rm8imm (fun _ _ => rfl) (fun _ _ => rfl) ‹_›
  case h_6 h0 h1 h2 h3 h4 =>
    refine reads_unused ?_ (by decide)
    revert m; decide

theorem reads_group83 : ReadsAfter 0x83 m (group83 m) := by
  unfold group83
  split
  case h_1 | h_2 | h_3 | h_4 | h_5 => exact reads_rm16simm (fun _ _ => rfl) (fun _ _ => rfl) ‹_›
  case h_6 h0 h1 h2 h3 h4 =>
    refine reads_unused ?_ (by decide)
    revert m; decide

theorem reads_group8E : ReadsAfter 0x8E m (group8E m) := by
  unfold group8E
  split
  case h_1 | h_2 | h_3 => exact reads_rm16 (fun _ => rfl) (fun _ => rfl) ‹_›
  case h_4 h0 h1 h2 =>
    refine reads_unused ?_ (by decide)
    revert m; decide

theorem reads_group8F : ReadsAfter 0x8F m (group8F m) := by
  unfold group8F
  split
  case h_1 reg => exact reads_rm16 (fun _ => rfl) (fun _ => rfl) reg
  case h_2 h0 =>
    refine reads_unused ?_ (by decide)
    revert m; decide

theorem reads_groupC6 : ReadsAfter 0xC6 m (groupC6 m) := by
  unfold groupC6
  split
  case h_1 reg => exact reads_rm8imm (fun _ _ => rfl) (fun _ _ => rfl) reg
  case h_2 h0 =>
    refine reads_unused ?_ (by decide)
    revert m; decide

theorem reads_groupC7 : ReadsAfter 0xC7 m (groupC7 m) := by
  unfold groupC7
  split
  case h_1 reg => exact reads_rm16imm (fun _ _ => rfl) (fun _ _ => rfl) reg
  case h_2 h0 =>
    refine reads_unused ?_ (by decide)
    revert m; decide

theorem reads_groupD0 : ReadsAfter 0xD0 m (groupD0 m) := by
  unfold groupD0
  split
  case h_1 | h_2 | h_3 | h_4 | h_5 | h_6 | h_7 => exact reads_rm8 (fun _ => rfl) (fun _ => rfl) ‹_›
  case h_8 h0 h1 h2 h3 h4 h5 h6 =>
    refine reads_unused ?_ (by decide)
    revert m; decide

theorem reads_groupD1 : ReadsAfter 0xD1 m (groupD1 m) := by
  unfold groupD1
  split
  case h_1 | h_2 | h_3 | h_4 | h_5 | h_6 | h_7 => exact reads_rm16 (fun _ => rfl) (fun _ => rfl) ‹_›
  case h_8 h0 h1 h2 h3 h4 h5 h6 =>
    refine reads_unused ?_ (by decide)
    revert m; decide

theorem reads_groupD2 : ReadsAfter 0xD2 m (groupD2 m) := by
  unfold groupD2
  split
  case h_1 | h_2 | h_3 | h_4 | h_5 | h_6 | h_7 => exact reads_rm8 (fun _ => rfl) (fun _ => rfl) ‹_›
  case h_8 h0 h1 h2 h3 h4 h5 h6 =>
    refine reads_unused ?_ (by decide)
    revert m; decide

theorem reads_groupD3 : ReadsAfter 0xD3 m (groupD3 m) := by
  unfold groupD3
  split
  case h_1 | h_2 | h_3 | h_4 | h_5 | h_6 | h_7 => exact reads_rm16 (fun _ => rfl) (fun _ => rfl) ‹_›
  case h_8 h0 h1 h2 h3 h4 h5 h6 =>
    refine reads_unused ?_ (by decide)
    revert m; decide

theorem reads_groupF6 : ReadsAfter 0xF6 m (groupF6 m) := by
  unfold groupF6
  split
  case h_1 reg => exact reads_rm8imm (fun _ _ => rfl) (fun _ _ => rfl) reg
  case h_2 | h_3 | h_4 | h_5 | h_6 | h_7 => exact reads_rm8 (fun _ => rfl) (fun _ => rfl) ‹_›
  case h_8 h0 h1 h2 h3 h4 h5 h6 =>
    refine reads_unused ?_ (by decide)
    revert m; decide

theorem reads_groupF7 : ReadsAfter 0xF7 m (groupF7 m) := by
  unfold groupF7
  split
  case h_1 reg => exact reads_rm16imm (fun _ _ => rfl) (fun _ _ => rfl) reg
  case h_2 | h_3 | h_4 | h_5 | h_6 | h_7 => exact reads_rm16 (fun _ => rfl) (fun _ => rfl) ‹_›
  case h_8 h0 h1 h2 h3 h4 h5 h6 =>
    refine reads_unused ?_ (by decide)
    revert m; decide

theorem reads_groupFE : ReadsAfter 0xFE m (groupFE m) := by
  unfold groupFE
  split
  case h_1 | h_2 => exact reads_rm8 (fun _ => rfl) (fun _ => rfl) ‹_›
  case h_3 h0 h1 =>
    refine reads_unused ?_ (by decide)
    revert m; decide

theorem reads_groupFF : ReadsAfter 0xFF m (groupFF m) := by
  unfold groupFF
  split
  case h_1 | h_2 | h_3 | h_5 | h_7 => exact reads_rm16 (fun _ => rfl) (fun _ => rfl) ‹_›
  case h_4 | h_6 =>
    exact reads_memOnly (fun _ => rfl) (fun _ => rfl) ‹_› (by revert m; decide) (by decide)
  case h_8 h0 h1 h2 h3 h4 h5 h6 =>
    refine reads_unused ?_ (by decide)
    revert m; decide

theorem reads_movSreg : ReadsAfter 0x8C m (movSreg m) := by
  have fields : ∀ m : Byte, (m.getLsbD 5 = true → pairUnused 0x8C m = true) ∧
      (m.getLsbD 5 = false → regField m = 0#1 ++ m.extractLsb' 3 2) := by decide
  obtain ⟨bad, good⟩ := fields m
  unfold movSreg
  split
  case isTrue set => exact reads_unused (bad set) (by decide)
  case isFalse clear =>
    refine reads_rm16 (fun e => ?_) (fun _ => rfl) (good (Bool.eq_false_iff.mpr clear))
    rw [encode, SegReg.num_ofNum]

end Groups

section Map

theorem reads_row0 (lo : BitVec 4) : Reads (0x0#4 ++ lo) (decodeOp (0x0#4 ++ lo)) :=
  match lo with
  | 0x0#4 | 0x2#4 | 0x8#4 | 0xA#4 => reads_rm8reg (fun _ _ => rfl) (fun _ _ => rfl)
  | 0x1#4 | 0x3#4 | 0x9#4 | 0xB#4 => reads_rm16reg (fun _ _ => rfl) (fun _ _ => rfl)
  | 0x4#4 | 0xC#4 => reads_withByte (fun _ => rfl) (fun _ => rfl)
  | 0x5#4 | 0xD#4 => reads_withWord (fun _ => rfl) (fun _ => rfl)
  | 0x6#4 | 0x7#4 | 0xE#4 | 0xF#4 => reads_bare rfl rfl
  | ⟨⟨_ + 16, h⟩⟩ => absurd h (by omega)

theorem reads_row1 (lo : BitVec 4) : Reads (0x1#4 ++ lo) (decodeOp (0x1#4 ++ lo)) :=
  match lo with
  | 0x0#4 | 0x2#4 | 0x8#4 | 0xA#4 => reads_rm8reg (fun _ _ => rfl) (fun _ _ => rfl)
  | 0x1#4 | 0x3#4 | 0x9#4 | 0xB#4 => reads_rm16reg (fun _ _ => rfl) (fun _ _ => rfl)
  | 0x4#4 | 0xC#4 => reads_withByte (fun _ => rfl) (fun _ => rfl)
  | 0x5#4 | 0xD#4 => reads_withWord (fun _ => rfl) (fun _ => rfl)
  | 0x6#4 | 0x7#4 | 0xE#4 | 0xF#4 => reads_bare rfl rfl
  | ⟨⟨_ + 16, h⟩⟩ => absurd h (by omega)

theorem reads_row2 (lo : BitVec 4) : Reads (0x2#4 ++ lo) (decodeOp (0x2#4 ++ lo)) :=
  match lo with
  | 0x0#4 | 0x2#4 | 0x8#4 | 0xA#4 => reads_rm8reg (fun _ _ => rfl) (fun _ _ => rfl)
  | 0x1#4 | 0x3#4 | 0x9#4 | 0xB#4 => reads_rm16reg (fun _ _ => rfl) (fun _ _ => rfl)
  | 0x4#4 | 0xC#4 => reads_withByte (fun _ => rfl) (fun _ => rfl)
  | 0x5#4 | 0xD#4 => reads_withWord (fun _ => rfl) (fun _ => rfl)
  | 0x6#4 | 0x7#4 | 0xE#4 | 0xF#4 => reads_bare rfl rfl
  | ⟨⟨_ + 16, h⟩⟩ => absurd h (by omega)

theorem reads_row3 (lo : BitVec 4) : Reads (0x3#4 ++ lo) (decodeOp (0x3#4 ++ lo)) :=
  match lo with
  | 0x0#4 | 0x2#4 | 0x8#4 | 0xA#4 => reads_rm8reg (fun _ _ => rfl) (fun _ _ => rfl)
  | 0x1#4 | 0x3#4 | 0x9#4 | 0xB#4 => reads_rm16reg (fun _ _ => rfl) (fun _ _ => rfl)
  | 0x4#4 | 0xC#4 => reads_withByte (fun _ => rfl) (fun _ => rfl)
  | 0x5#4 | 0xD#4 => reads_withWord (fun _ => rfl) (fun _ => rfl)
  | 0x6#4 | 0x7#4 | 0xE#4 | 0xF#4 => reads_bare rfl rfl
  | ⟨⟨_ + 16, h⟩⟩ => absurd h (by omega)

theorem reads_row4 (lo : BitVec 4) : Reads (0x4#4 ++ lo) (decodeOp (0x4#4 ++ lo)) :=
  match lo with
  | 0x0#4 | 0x1#4 | 0x2#4 | 0x3#4 | 0x4#4 | 0x5#4 | 0x6#4 | 0x7#4 | 0x8#4 | 0x9#4 | 0xA#4 | 0xB#4
  | 0xC#4 | 0xD#4 | 0xE#4 | 0xF#4 =>
    reads_bare rfl rfl
  | ⟨⟨_ + 16, h⟩⟩ => absurd h (by omega)

theorem reads_row5 (lo : BitVec 4) : Reads (0x5#4 ++ lo) (decodeOp (0x5#4 ++ lo)) :=
  match lo with
  | 0x0#4 | 0x1#4 | 0x2#4 | 0x3#4 | 0x4#4 | 0x5#4 | 0x6#4 | 0x7#4 | 0x8#4 | 0x9#4 | 0xA#4 | 0xB#4
  | 0xC#4 | 0xD#4 | 0xE#4 | 0xF#4 =>
    reads_bare rfl rfl
  | ⟨⟨_ + 16, h⟩⟩ => absurd h (by omega)

theorem reads_row6 (lo : BitVec 4) : Reads (0x6#4 ++ lo) (decodeOp (0x6#4 ++ lo)) :=
  match lo with
  | 0x0#4 | 0x1#4 | 0x2#4 | 0x3#4 | 0x4#4 | 0x5#4 | 0x6#4 | 0x7#4 | 0x8#4 | 0x9#4 | 0xA#4 | 0xB#4
  | 0xC#4 | 0xD#4 | 0xE#4 | 0xF#4 =>
    reads_bare rfl rfl
  | ⟨⟨_ + 16, h⟩⟩ => absurd h (by omega)

theorem reads_row7 (lo : BitVec 4) : Reads (0x7#4 ++ lo) (decodeOp (0x7#4 ++ lo)) :=
  match lo with
  | 0x0#4 | 0x1#4 | 0x2#4 | 0x3#4 | 0x4#4 | 0x5#4 | 0x6#4 | 0x7#4 | 0x8#4 | 0x9#4 | 0xA#4 | 0xB#4
  | 0xC#4 | 0xD#4 | 0xE#4 | 0xF#4 =>
    reads_withByte (fun _ => rfl) (fun _ => rfl)
  | ⟨⟨_ + 16, h⟩⟩ => absurd h (by omega)

theorem reads_row8 (lo : BitVec 4) : Reads (0x8#4 ++ lo) (decodeOp (0x8#4 ++ lo)) :=
  match lo with
  | 0x0#4 => reads_withModRM reads_group80
  | 0x1#4 => reads_withModRM reads_group81
  | 0x2#4 => reads_withModRM reads_group82
  | 0x3#4 => reads_withModRM reads_group83
  | 0x4#4 | 0x6#4 | 0x8#4 | 0xA#4 => reads_rm8reg (fun _ _ => rfl) (fun _ _ => rfl)
  | 0x5#4 | 0x7#4 | 0x9#4 | 0xB#4 => reads_rm16reg (fun _ _ => rfl) (fun _ _ => rfl)
  | 0xC#4 => reads_withModRM reads_movSreg
  | 0xD#4 => reads_memReg (fun _ _ => rfl) (fun _ _ => rfl) (by decide) (by decide)
  | 0xE#4 => reads_withModRM reads_group8E
  | 0xF#4 => reads_withModRM reads_group8F
  | ⟨⟨_ + 16, h⟩⟩ => absurd h (by omega)

theorem reads_row9 (lo : BitVec 4) : Reads (0x9#4 ++ lo) (decodeOp (0x9#4 ++ lo)) :=
  match lo with
  | 0x0#4 | 0x1#4 | 0x2#4 | 0x3#4 | 0x4#4 | 0x5#4 | 0x6#4 | 0x7#4 | 0x8#4 | 0x9#4 | 0xB#4 | 0xC#4
  | 0xD#4 | 0xE#4 | 0xF#4 =>
    reads_bare rfl rfl
  | 0xA#4 => reads_withPtr (fun _ _ => rfl) (fun _ _ => rfl)
  | ⟨⟨_ + 16, h⟩⟩ => absurd h (by omega)

theorem reads_rowA (lo : BitVec 4) : Reads (0xA#4 ++ lo) (decodeOp (0xA#4 ++ lo)) :=
  match lo with
  | 0x0#4 | 0x1#4 | 0x2#4 | 0x3#4 | 0x9#4 => reads_withWord (fun _ => rfl) (fun _ => rfl)
  | 0x4#4 | 0x5#4 | 0x6#4 | 0x7#4 | 0xA#4 | 0xB#4 | 0xC#4 | 0xD#4 | 0xE#4 | 0xF#4 => reads_bare rfl rfl
  | 0x8#4 => reads_withByte (fun _ => rfl) (fun _ => rfl)
  | ⟨⟨_ + 16, h⟩⟩ => absurd h (by omega)

theorem reads_rowB (lo : BitVec 4) : Reads (0xB#4 ++ lo) (decodeOp (0xB#4 ++ lo)) :=
  match lo with
  | 0x0#4 | 0x1#4 | 0x2#4 | 0x3#4 | 0x4#4 | 0x5#4 | 0x6#4 | 0x7#4 => reads_withByte (fun _ => rfl) (fun _ => rfl)
  | 0x8#4 | 0x9#4 | 0xA#4 | 0xB#4 | 0xC#4 | 0xD#4 | 0xE#4 | 0xF#4 => reads_withWord (fun _ => rfl) (fun _ => rfl)
  | ⟨⟨_ + 16, h⟩⟩ => absurd h (by omega)

theorem reads_rowC (lo : BitVec 4) : Reads (0xC#4 ++ lo) (decodeOp (0xC#4 ++ lo)) :=
  match lo with
  | 0x0#4 | 0x1#4 | 0x3#4 | 0x8#4 | 0x9#4 | 0xB#4 | 0xC#4 | 0xE#4 | 0xF#4 => reads_bare rfl rfl
  | 0x2#4 | 0xA#4 => reads_withWord (fun _ => rfl) (fun _ => rfl)
  | 0x4#4 | 0x5#4 => reads_memReg (fun _ _ => rfl) (fun _ _ => rfl) (by decide) (by decide)
  | 0x6#4 => reads_withModRM reads_groupC6
  | 0x7#4 => reads_withModRM reads_groupC7
  | 0xD#4 => reads_withByte (fun _ => rfl) (fun _ => rfl)
  | ⟨⟨_ + 16, h⟩⟩ => absurd h (by omega)

theorem reads_rowD (lo : BitVec 4) : Reads (0xD#4 ++ lo) (decodeOp (0xD#4 ++ lo)) :=
  match lo with
  | 0x0#4 => reads_withModRM reads_groupD0
  | 0x1#4 => reads_withModRM reads_groupD1
  | 0x2#4 => reads_withModRM reads_groupD2
  | 0x3#4 => reads_withModRM reads_groupD3
  | 0x4#4 | 0x5#4 => reads_withTen rfl rfl (by decide) (by decide)
  | 0x6#4 | 0x7#4 => reads_bare rfl rfl
  | 0x8#4 => reads_esc 0
  | 0x9#4 => reads_esc 1
  | 0xA#4 => reads_esc 2
  | 0xB#4 => reads_esc 3
  | 0xC#4 => reads_esc 4
  | 0xD#4 => reads_esc 5
  | 0xE#4 => reads_esc 6
  | 0xF#4 => reads_esc 7
  | ⟨⟨_ + 16, h⟩⟩ => absurd h (by omega)

theorem reads_rowE (lo : BitVec 4) : Reads (0xE#4 ++ lo) (decodeOp (0xE#4 ++ lo)) :=
  match lo with
  | 0x0#4 | 0x1#4 | 0x2#4 | 0x3#4 | 0x4#4 | 0x5#4 | 0x6#4 | 0x7#4 | 0xB#4 =>
    reads_withByte (fun _ => rfl) (fun _ => rfl)
  | 0x8#4 | 0x9#4 => reads_withWord (fun _ => rfl) (fun _ => rfl)
  | 0xA#4 => reads_withPtr (fun _ _ => rfl) (fun _ _ => rfl)
  | 0xC#4 | 0xD#4 | 0xE#4 | 0xF#4 => reads_bare rfl rfl
  | ⟨⟨_ + 16, h⟩⟩ => absurd h (by omega)

theorem reads_rowF (lo : BitVec 4) : Reads (0xF#4 ++ lo) (decodeOp (0xF#4 ++ lo)) :=
  match lo with
  | 0x0#4 | 0x1#4 | 0x2#4 | 0x3#4 | 0x4#4 | 0x5#4 | 0x8#4 | 0x9#4 | 0xA#4 | 0xB#4 | 0xC#4 | 0xD#4 =>
    reads_bare rfl rfl
  | 0x6#4 => reads_withModRM reads_groupF6
  | 0x7#4 => reads_withModRM reads_groupF7
  | 0xE#4 => reads_withModRM reads_groupFE
  | 0xF#4 => reads_withModRM reads_groupFF
  | ⟨⟨_ + 16, h⟩⟩ => absurd h (by omega)

theorem reads_decodeOp (op : Byte) : Reads op (decodeOp op) := by
  have rows : ∀ hi lo : BitVec 4, Reads (hi ++ lo) (decodeOp (hi ++ lo)) := fun hi =>
    match hi with
    | 0x0#4 => reads_row0
    | 0x1#4 => reads_row1
    | 0x2#4 => reads_row2
    | 0x3#4 => reads_row3
    | 0x4#4 => reads_row4
    | 0x5#4 => reads_row5
    | 0x6#4 => reads_row6
    | 0x7#4 => reads_row7
    | 0x8#4 => reads_row8
    | 0x9#4 => reads_row9
    | 0xA#4 => reads_rowA
    | 0xB#4 => reads_rowB
    | 0xC#4 => reads_rowC
    | 0xD#4 => reads_rowD
    | 0xE#4 => reads_rowE
    | 0xF#4 => reads_rowF
    | ⟨⟨_ + 16, h⟩⟩ => absurd h (by omega)
  have halves : op.extractLsb' 4 4 ++ op.extractLsb' 0 4 = op := by
    revert op; decide
  exact halves ▸ rows _ _

end Map

/-- Settles O3: the layout of each opcode reads the bytes of a well-formed encoding. -/
theorem encodeOfDecode : Obligations.EncodeOfDecode := by
  intro bs rest i h
  match bs with
  | [] => simp [decode] at h
  | op :: bs => exact (reads_decodeOp op).exact bs i rest h

/-- Settles O4: five bytes after the opcode are enough for every layout, and the bytes of the encoding are among those
read. -/
theorem sixBytesDecode : Obligations.SixBytesDecode := by
  intro bs six
  match bs with
  | op :: bs =>
    obtain ⟨⟨i, rest⟩, h⟩ := Option.isSome_iff_exists.mp ((reads_decodeOp op).enough bs (by simpa using six.ge))
    obtain ⟨wf, bytes⟩ := (reads_decodeOp op).exact bs i rest h
    have total : (encode i).length + rest.length = 6 := by rw [← List.length_append, ← bytes, six]
    have nonempty : encode i ≠ [] := fun none => by
      have read := decodeOfEncode i [] wf
      simp [none, decode] at read
    exact ⟨i, rest, h, List.length_pos_iff.mpr nonempty, by omega⟩

end Sys2Proof

/-! ## Runs in lockstep

Every instruction is made of the same few operations. A relation between states that these operations keep is kept by
every instruction: said once here for a relation of two runs that differ only in what stands beside the instruction, and
used for a single run as a relation of that run with itself. -/

namespace Sys2Proof.Machine

/-- An action of a bus cycle: it answers and changes memory, devices and the counter of free bytes in the same way,
whatever stands beside the instruction. -/
structure Moves {α : Type} (f : State → α × State) : Prop where
  keeps : ∀ s : State, Keeps s (f s).2
  beside : ∀ s : State, ∃ l m d n, ∀ x,
    f { s with flight := x } = (l, { s with flight := x, mem := m, devices := d, floats := n })

/-- The answers agree, and the states after them are related. -/
def Alike {α : Type} (R : State → State → Prop) (x y : α × State) : Prop := x.1 = y.1 ∧ R x.2 y.2

/-- What an instruction can do is done in step by two related runs, which differ in nothing but their flight. -/
structure Lockstep (R : State → State → Prop) : Prop where
  view : ∀ {s t : State}, R s t → ∃ x, t = { s with flight := x }
  own : ∀ {s t : State}, R s t → ∀ (g : Regs) (q : Segs) (v : Word) (f : Flags) (b : Bool)
    (w : Shadow) (o : Trap) (n : Nat),
    R { s with regs := g, segs := q, ip := v, flags := f, halted := b, shadow := w, trap := o, draws := n }
      { t with regs := g, segs := q, ip := v, flags := f, halted := b, shadow := w, trap := o, draws := n }
  arm : ∀ {s t : State}, R s t → ∀ a : Armed, (s.armed.rep ≠ none → a.rep ≠ none) →
    R { s with armed := a } { t with armed := a }
  lock : ∀ {s t : State}, R s t → R { s with locked := true } { t with locked := true }
  goOn : ∀ {s t : State}, R s t → ∀ i, (i = .wait ∨ (takesRepeat i = true ∧ s.armed.rep ≠ none)) →
    R { s with inProgress := some i } { t with inProgress := some i }
  cycle : ∀ {s t : State}, R s t → ∀ {f}, Moves f → ∀ pt k a g, Alike R (s.cycle pt k a g f) (t.cycle pt k a g f)
  flush : ∀ {s t : State}, R s t → R s.flushQueue t.flushQueue

/-! ### Actions of bus cycles -/

theorem moves_answer {α : Type} (v : State → α) (h : ∀ (s : State) x, v { s with flight := x } = v s) :
    Moves fun s => (v s, s) :=
  ⟨fun s => Keeps.refl s, fun s => ⟨v s, s.mem, s.devices, s.floats, fun x => by rw [h]⟩⟩

theorem Moves.bind {α β : Type} {f : State → α × State} {g : α → State → β × State} (hf : Moves f)
    (hg : ∀ v, Moves (g v)) : Moves fun s => g (f s).1 (f s).2 := by
  refine ⟨fun s => (hf.keeps s).trans ((hg _).keeps _), fun s => ?_⟩
  obtain ⟨l, m, d, n, hl⟩ := hf.beside s
  obtain ⟨l', m', d', n', hl'⟩ := (hg l).beside { s with mem := m, devices := d, floats := n }
  exact ⟨l', m', d', n', fun x => by rw [hl x]; exact hl' x⟩

/-- An action on the state alone. -/
theorem Moves.after {α : Type} {f : State → State} (h : Moves fun s => ((), f s)) (v : α) :
    Moves fun s => (v, f s) :=
  h.bind (g := fun _ s => (v, s)) fun _ => moves_answer (fun _ => v) fun _ _ => rfl

theorem moves_readByte (a : Addr) : Moves fun s => s.readByte a := by
  refine ⟨fun s => keeps_readByte s a, fun s => ?_⟩
  by_cases h : s.kindAt a = .absent
  · exact ⟨Config.openByte s.floats, s.mem, s.devices, s.floats + 1, fun x => if_pos h⟩
  · exact ⟨s.byteAt a, s.mem, s.devices, s.floats, fun x => if_neg h⟩

theorem moves_writeByte (a : Addr) (v : Byte) : Moves fun s => ((), s.writeByte a v) := by
  refine ⟨fun s => keeps_writeByte s a v, fun s => ?_⟩
  by_cases h : s.kindAt a = .ram
  · exact ⟨(), Memory.write s.mem a.toNat v, s.devices, s.floats, fun x => congrArg _ (if_pos h)⟩
  · exact ⟨(), s.mem, s.devices, s.floats, fun x => congrArg _ (if_neg h)⟩

theorem moves_readPort (p : Nat) : Moves fun s => s.readPort p := by
  refine ⟨fun s => keeps_readPort s p, fun s => ?_⟩
  cases h : Device.take p s.devices with
  | none => exact ⟨Config.openByte s.floats, s.mem, s.devices, s.floats + 1, fun x => by
      simp [State.readPort, h, State.floatByte]⟩
  | some r => exact ⟨r.1, s.mem, r.2, s.floats, fun x => by simp [State.readPort, h]⟩

theorem moves_writePort (p : Nat) (v : Byte) : Moves fun s => ((), s.writePort p v) :=
  ⟨fun s => keeps_writePort s p v, fun s => ⟨(), s.mem, Device.give p v s.devices, s.floats, fun _ => rfl⟩⟩

theorem moves_input (sp : Space) (a : Addr) : Moves fun s => s.input sp a := by
  cases sp with
  | memory => exact moves_readByte a
  | io => exact moves_readPort _

theorem moves_output (sp : Space) (a : Addr) (v : Byte) : Moves fun s => ((), s.output sp a v) := by
  cases sp with
  | memory => exact moves_writeByte a v
  | io => exact moves_writePort _ v

theorem moves_inputWord (sp : Space) (lo hi : Addr) : Moves fun s => s.inputWord sp lo hi :=
  (moves_input sp lo).bind fun b =>
    (moves_input sp hi).bind (g := fun c s => (wordOf b c, s)) fun _ => moves_answer _ fun _ _ => rfl

theorem moves_outputWord (sp : Space) (lo hi : Addr) (v : Word) : Moves fun s => ((), s.outputWord sp lo hi v) :=
  (moves_output sp lo (lowByte v)).bind fun _ => moves_output sp hi (highByte v)

theorem Moves.map {α β : Type} {f : State → α × State} (h : Moves f) (k : α → β) :
    Moves fun s => (k (f s).1, (f s).2) :=
  h.bind (g := fun v s => (k v, s)) fun v => moves_answer (fun _ => k v) fun _ _ => rfl

/-! ### Accesses -/

variable {R : State → State → Prop} (hR : Lockstep R)

theorem Alike.bind {α : Type} {x y : α × State} (h : Alike R x y) {f : α → State → State}
    (k : ∀ v u w, R u w → R (f v u) (f v w)) : R (f x.1 x.2) (f y.1 y.2) := by
  obtain ⟨e, r⟩ := h
  rw [e]
  exact k _ _ _ r

theorem Alike.bindAlike {α β : Type} {x y : α × State} (h : Alike R x y) {f : α → State → β × State}
    (k : ∀ v u w, R u w → Alike R (f v u) (f v w)) : Alike R (f x.1 x.2) (f y.1 y.2) := by
  obtain ⟨e, r⟩ := h
  rw [e]
  exact k _ _ _ r

namespace Lockstep

variable {s t : State}

include hR

theorem setReg16 (h : R s t) (r : Reg16) (v : Word) : R (s.setReg16 r v) (t.setReg16 r v) := by
  obtain ⟨x, rfl⟩ := hR.view h
  exact hR.own h (s.regs.put16 r v) s.segs s.ip s.flags s.halted s.shadow s.trap s.draws

theorem setReg8 (h : R s t) (r : Reg8) (v : Byte) : R (s.setReg8 r v) (t.setReg8 r v) := by
  obtain ⟨x, rfl⟩ := hR.view h
  exact hR.own h (s.regs.put8 r v) s.segs s.ip s.flags s.halted s.shadow s.trap s.draws

theorem setSegReg (h : R s t) (r : SegReg) (v : Word) : R (s.setSegReg r v) (t.setSegReg r v) := by
  obtain ⟨x, rfl⟩ := hR.view h
  exact hR.own h s.regs (s.segs.put r v) s.ip s.flags s.halted s.shadow s.trap s.draws

theorem setFlags (h : R s t) (f : Flags) : R (s.setFlags f) (t.setFlags f) := by
  obtain ⟨x, rfl⟩ := hR.view h
  exact hR.own h s.regs s.segs s.ip f s.halted s.shadow s.trap s.draws

theorem setIp (h : R s t) (v : Word) : R { s with ip := v } { t with ip := v } := by
  obtain ⟨x, rfl⟩ := hR.view h
  exact hR.own h s.regs s.segs v s.flags s.halted s.shadow s.trap s.draws

theorem setHalted (h : R s t) (b : Bool) : R { s with halted := b } { t with halted := b } := by
  obtain ⟨x, rfl⟩ := hR.view h
  exact hR.own h s.regs s.segs s.ip s.flags b s.shadow s.trap s.draws

theorem setShadow (h : R s t) (w : Shadow) : R { s with shadow := w } { t with shadow := w } := by
  obtain ⟨x, rfl⟩ := hR.view h
  exact hR.own h s.regs s.segs s.ip s.flags s.halted w s.trap s.draws

theorem draw (h : R s t) : R { s with draws := s.draws + 1 } { t with draws := t.draws + 1 } := by
  obtain ⟨x, rfl⟩ := hR.view h
  exact hR.own h s.regs s.segs s.ip s.flags s.halted s.shadow s.trap (s.draws + 1)

theorem drawBit (h : R s t) : Alike R s.drawBit t.drawBit :=
  ⟨by obtain ⟨x, rfl⟩ := hR.view h; rfl, hR.draw h⟩

theorem drawByte (h : R s t) : Alike R s.drawByte t.drawByte :=
  ⟨by obtain ⟨x, rfl⟩ := hR.view h; rfl, hR.draw h⟩

theorem drawWord (h : R s t) : Alike R s.drawWord t.drawWord :=
  ⟨by obtain ⟨x, rfl⟩ := hR.view h; rfl, hR.draw h⟩

theorem undef (ks : List Flag) (h : R s t) : R (s.undef ks) (t.undef ks) := by
  induction ks generalizing s t with
  | nil => exact h
  | cons k ks ih =>
    refine ih ?_
    obtain ⟨x, rfl⟩ := hR.view h
    exact hR.own h s.regs s.segs s.ip (s.flags.put k s.drawBit.1) s.halted s.shadow s.trap (s.draws + 1)

theorem readOne (h : R s t) (pt : Point) (sp : Space) (a : Addr) (g : Option SegReg) :
    Alike R (s.readOne pt sp a g) (t.readOne pt sp a g) := by
  obtain ⟨e, r⟩ := hR.cycle h ((moves_input sp a).map (Lanes.byte a)) pt sp.readKind (some a) g
  exact ⟨congrArg (Lanes.byteOf · a) e, r⟩

theorem writeOne (h : R s t) (pt : Point) (sp : Space) (a : Addr) (v : Byte) (g : Option SegReg) :
    R (s.writeOne pt sp a v g) (t.writeOne pt sp a v g) :=
  (hR.cycle h ((moves_output sp a v).after (Lanes.byte a v)) pt sp.writeKind (some a) g).2

theorem readPair (h : R s t) (sp : Space) (lo hi : Addr) (g : Option SegReg) :
    Alike R (s.readPair sp lo hi g) (t.readPair sp lo hi g) := by
  unfold State.readPair
  split
  case isTrue =>
    exact (hR.readOne h .between sp lo g).bindAlike
      (f := fun b u => (wordOf b (u.readOne .insideWord sp hi g).1, (u.readOne .insideWord sp hi g).2))
      fun b u w k => ⟨congrArg (wordOf b) (hR.readOne k .insideWord sp hi g).1, (hR.readOne k .insideWord sp hi g).2⟩
  case isFalse =>
    obtain ⟨e, r⟩ := hR.cycle h ((moves_inputWord sp lo hi).map Lanes.word) .between sp.readKind (some lo) g
    exact ⟨congrArg Lanes.toWord e, r⟩

theorem writePair (h : R s t) (sp : Space) (lo hi : Addr) (v : Word) (g : Option SegReg) :
    R (s.writePair sp lo hi v g) (t.writePair sp lo hi v g) := by
  unfold State.writePair
  split
  case isTrue => exact hR.writeOne (hR.writeOne h _ _ _ _ _) _ _ _ _ _
  case isFalse => exact (hR.cycle h ((moves_outputWord sp lo hi v).after (Lanes.word v)) _ _ _ _).2

theorem readMem8 (h : R s t) (g : SegReg) (off : Word) : Alike R (s.readMem8 g off) (t.readMem8 g off) := by
  obtain ⟨x, rfl⟩ := hR.view h
  exact hR.readOne h _ _ _ _

theorem writeMem8 (h : R s t) (g : SegReg) (off : Word) (v : Byte) : R (s.writeMem8 g off v) (t.writeMem8 g off v) := by
  obtain ⟨x, rfl⟩ := hR.view h
  exact hR.writeOne h _ _ _ _ _

theorem readMem16 (h : R s t) (g : SegReg) (off : Word) : Alike R (s.readMem16 g off) (t.readMem16 g off) := by
  obtain ⟨x, rfl⟩ := hR.view h
  exact hR.readPair h _ _ _ _

theorem writeMem16 (h : R s t) (g : SegReg) (off v : Word) : R (s.writeMem16 g off v) (t.writeMem16 g off v) := by
  obtain ⟨x, rfl⟩ := hR.view h
  exact hR.writePair h _ _ _ _ _

theorem ioRead8 (h : R s t) (p : Word) : Alike R (s.ioRead8 p) (t.ioRead8 p) := hR.readOne h _ _ _ _

theorem ioWrite8 (h : R s t) (p : Word) (v : Byte) : R (s.ioWrite8 p v) (t.ioWrite8 p v) := hR.writeOne h _ _ _ _ _

theorem ioRead16 (h : R s t) (p : Word) : Alike R (s.ioRead16 p) (t.ioRead16 p) := hR.readPair h _ _ _ _

theorem ioWrite16 (h : R s t) (p v : Word) : R (s.ioWrite16 p v) (t.ioWrite16 p v) := hR.writePair h _ _ _ _ _

theorem acknowledge (h : R s t) : Alike R s.acknowledge t.acknowledge := by
  obtain ⟨-, first⟩ := hR.cycle h (moves_answer (fun _ => Lanes.none) fun _ _ => rfl) .between .inta none none
  obtain ⟨e, second⟩ := hR.cycle first
    (moves_answer (fun u => { low := some u.pins.intType, high := none }) fun _ _ => rfl) .insideAck .inta none none
  exact ⟨congrArg (fun l : Lanes => l.low.getD 0) e, second⟩

theorem haltCycle (h : R s t) : R s.haltCycle t.haltCycle :=
  (hR.cycle h (moves_answer (fun _ => Lanes.none) fun _ _ => rfl) .between .halt none none).2

/-! ### The stack, transfers of control, interrupts -/

theorem push16 (h : R s t) (v : Word) : R (s.push16 v) (t.push16 v) := by
  obtain ⟨x, rfl⟩ := hR.view h
  exact hR.writeMem16 (hR.setReg16 h .sp (s.reg16 .sp - 2)) _ _ _

theorem pop16 (h : R s t) : Alike R s.pop16 t.pop16 := by
  obtain ⟨x, rfl⟩ := hR.view h
  refine (hR.readMem16 h .ss (s.reg16 .sp)).bindAlike (f := fun v u => (v, u.setReg16 .sp (u.reg16 .sp + 2)))
    fun v u w k => ⟨rfl, ?_⟩
  obtain ⟨y, rfl⟩ := hR.view k
  exact hR.setReg16 k _ _

theorem jumpNear (h : R s t) (v : Word) : R (s.jumpNear v) (t.jumpNear v) := hR.setIp (hR.flush h) v

theorem jumpFar (h : R s t) (seg off : Word) : R (s.jumpFar seg off) (t.jumpFar seg off) :=
  hR.setIp (hR.setSegReg (hR.flush h) .cs seg) off

theorem readVector (h : R s t) (n : Byte) : Alike R (s.readVector n) (t.readVector n) :=
  (hR.readPair h .memory (vectorAddr n 0) (vectorAddr n 1) none).bindAlike
    (f := fun off u => ((off, (u.readPair .memory (vectorAddr n 2) (vectorAddr n 3) none).1),
      (u.readPair .memory (vectorAddr n 2) (vectorAddr n 3) none).2))
    fun off _ _ k => ⟨congrArg (Prod.mk off) (hR.readPair k _ _ _ _).1, (hR.readPair k _ _ _ _).2⟩

theorem pushFrame (h : R s t) (rcs rip : Word) : R (s.pushFrame rcs rip) (t.pushFrame rcs rip) := by
  refine hR.push16 (hR.push16 ?_ rcs) rip
  obtain ⟨x, rfl⟩ := hR.view h
  have pushed := hR.push16 h s.flags.image
  obtain ⟨y, e⟩ := hR.view pushed
  rw [show State.flags { s with flight := x } = s.flags from rfl, e]
  rw [e] at pushed
  exact hR.setFlags pushed _

theorem interrupt (h : R s t) (n : Byte) (rcs rip : Word) : R (s.interrupt n rcs rip) (t.interrupt n rcs rip) := by
  obtain ⟨x, rfl⟩ := hR.view h
  have finish : ∀ {u w : State} (v : Word × Word), R u w →
      R { u.jumpFar v.2 v.1 with halted := false, trap := s.owedAfter n }
        { w.jumpFar v.2 v.1 with halted := false, trap := s.owedAfter n } := by
    intro u w v k
    have far := hR.jumpFar k v.2 v.1
    obtain ⟨y, e⟩ := hR.view far
    rw [e] at far ⊢
    exact hR.own far (u.jumpFar v.2 v.1).regs (u.jumpFar v.2 v.1).segs (u.jumpFar v.2 v.1).ip
      (u.jumpFar v.2 v.1).flags false (u.jumpFar v.2 v.1).shadow (s.owedAfter n) (u.jumpFar v.2 v.1).draws
  unfold State.interrupt
  dsimp only
  split
  case isTrue =>
    exact (hR.readVector h n).bind
      (f := fun v u => { (u.pushFrame rcs rip).jumpFar v.2 v.1 with halted := false, trap := s.owedAfter n })
      fun v u w k => finish v (hR.pushFrame k rcs rip)
  case isFalse =>
    exact (hR.readVector (hR.pushFrame h rcs rip) n).bind
      (f := fun v u => { u.jumpFar v.2 v.1 with halted := false, trap := s.owedAfter n })
      fun v u w k => finish v k

theorem raise (h : R s t) (n : Byte) : R (s.raise n) (t.raise n) := by
  obtain ⟨x, rfl⟩ := hR.view h
  exact hR.interrupt h _ _ _

theorem interruptReturn (h : R s t) : R s.interruptReturn t.interruptReturn :=
  (hR.pop16 h).bind
    (f := fun ip u => ((u.pop16.2.pop16.2).setFlags (Flags.ofImage u.pop16.2.pop16.1)).jumpFar u.pop16.1 ip)
    fun ip _ _ k => (hR.pop16 k).bind (f := fun cs u => (u.pop16.2.setFlags (Flags.ofImage u.pop16.1)).jumpFar cs ip)
      fun cs _ _ l => (hR.pop16 l).bind (f := fun fl u => (u.setFlags (Flags.ofImage fl)).jumpFar cs ip)
        fun _ _ _ m => hR.jumpFar (hR.setFlags m _) cs ip

/-! ### Operands -/

theorem get8 (h : R s t) (p : Place Reg8) : Alike R (s.get8 p) (t.get8 p) := by
  cases p with
  | reg r => obtain ⟨x, rfl⟩ := hR.view h; exact ⟨rfl, h⟩
  | mem g off => exact hR.readMem8 h g off

theorem get16 (h : R s t) (p : Place Reg16) : Alike R (s.get16 p) (t.get16 p) := by
  cases p with
  | reg r => obtain ⟨x, rfl⟩ := hR.view h; exact ⟨rfl, h⟩
  | mem g off => exact hR.readMem16 h g off

theorem put8 (h : R s t) (p : Place Reg8) (v : Byte) : R (s.put8 p v) (t.put8 p v) := by
  cases p with
  | reg r => exact hR.setReg8 h r v
  | mem g off => exact hR.writeMem8 h g off v

theorem put16 (h : R s t) (p : Place Reg16) (v : Word) : R (s.put16 p v) (t.put16 p v) := by
  cases p with
  | reg r => exact hR.setReg16 h r v
  | mem g off => exact hR.writeMem16 h g off v


theorem place {ρ : Type} (h : R s t) (e : RM ρ) : t.place e = s.place e := by
  obtain ⟨x, rfl⟩ := hR.view h
  cases e with
  | reg r => rfl
  | mem m => cases m <;> rfl

theorem readFar (h : R s t) (m : MemOp) : Alike R (s.readFar m) (t.readFar m) := by
  have seg : t.segOf m = s.segOf m := by obtain ⟨x, rfl⟩ := hR.view h; rfl
  have ea : t.ea m = s.ea m := by obtain ⟨x, rfl⟩ := hR.view h; cases m <;> rfl
  unfold State.readFar
  rw [seg, ea]
  exact (hR.readMem16 h (s.segOf m) (s.ea m)).bindAlike
    (f := fun off u => ((off, (u.readMem16 (s.segOf m) (s.ea m + 2)).1), (u.readMem16 (s.segOf m) (s.ea m + 2)).2))
    fun off _ _ k => ⟨congrArg (Prod.mk off) (hR.readMem16 k _ _).1, (hR.readMem16 k _ _).2⟩

theorem update8 (h : R s t) (p : Place Reg8) (op : Alu1 8) : R (s.update8 p op) (t.update8 p op) :=
  (hR.get8 h p).bind (f := fun v u => (u.setFlags (op u.flags v).2).put8 p (op u.flags v).1) fun v u w k => by
    obtain ⟨x, rfl⟩ := hR.view k
    exact hR.put8 (hR.setFlags k _) p _

theorem update16 (h : R s t) (p : Place Reg16) (op : Alu1 16) : R (s.update16 p op) (t.update16 p op) :=
  (hR.get16 h p).bind (f := fun v u => (u.setFlags (op u.flags v).2).put16 p (op u.flags v).1) fun v u w k => by
    obtain ⟨x, rfl⟩ := hR.view k
    exact hR.put16 (hR.setFlags k _) p _

theorem inspect8 (h : R s t) (p : Place Reg8) (op : Alu1 8) : R (s.inspect8 p op) (t.inspect8 p op) :=
  (hR.get8 h p).bind (f := fun v u => u.setFlags (op u.flags v).2) fun v u w k => by
    obtain ⟨x, rfl⟩ := hR.view k
    exact hR.setFlags k _

theorem inspect16 (h : R s t) (p : Place Reg16) (op : Alu1 16) : R (s.inspect16 p op) (t.inspect16 p op) :=
  (hR.get16 h p).bind (f := fun v u => u.setFlags (op u.flags v).2) fun v u w k => by
    obtain ⟨x, rfl⟩ := hR.view k
    exact hR.setFlags k _

theorem aluTo8 (h : R s t) (op : Alu 8) (e : RM Reg8) (v : Byte) : R (s.aluTo8 op e v) (t.aluTo8 op e v) := by
  unfold State.aluTo8
  rw [hR.place h e]
  exact hR.update8 h _ _

theorem aluTo16 (h : R s t) (op : Alu 16) (e : RM Reg16) (v : Word) : R (s.aluTo16 op e v) (t.aluTo16 op e v) := by
  unfold State.aluTo16
  rw [hR.place h e]
  exact hR.update16 h _ _

theorem testTo8 (h : R s t) (op : Alu 8) (e : RM Reg8) (v : Byte) : R (s.testTo8 op e v) (t.testTo8 op e v) := by
  unfold State.testTo8
  rw [hR.place h e]
  exact hR.inspect8 h _ _

theorem testTo16 (h : R s t) (op : Alu 16) (e : RM Reg16) (v : Word) : R (s.testTo16 op e v) (t.testTo16 op e v) := by
  unfold State.testTo16
  rw [hR.place h e]
  exact hR.inspect16 h _ _

theorem aluFrom8 (h : R s t) (op : Alu 8) (r : Reg8) (e : RM Reg8) : R (s.aluFrom8 op r e) (t.aluFrom8 op r e) := by
  unfold State.aluFrom8
  rw [hR.place h e]
  exact (hR.get8 h _).bind (f := fun v u => u.update8 (.reg r) fun f a => op f a v) fun _ _ _ k => hR.update8 k _ _

theorem aluFrom16 (h : R s t) (op : Alu 16) (r : Reg16) (e : RM Reg16) :
    R (s.aluFrom16 op r e) (t.aluFrom16 op r e) := by
  unfold State.aluFrom16
  rw [hR.place h e]
  exact (hR.get16 h _).bind (f := fun v u => u.update16 (.reg r) fun f a => op f a v) fun _ _ _ k => hR.update16 k _ _

theorem testFrom8 (h : R s t) (op : Alu 8) (r : Reg8) (e : RM Reg8) : R (s.testFrom8 op r e) (t.testFrom8 op r e) := by
  unfold State.testFrom8
  rw [hR.place h e]
  exact (hR.get8 h _).bind (f := fun v u => u.inspect8 (.reg r) fun f a => op f a v) fun _ _ _ k => hR.inspect8 k _ _

theorem testFrom16 (h : R s t) (op : Alu 16) (r : Reg16) (e : RM Reg16) :
    R (s.testFrom16 op r e) (t.testFrom16 op r e) := by
  unfold State.testFrom16
  rw [hR.place h e]
  exact (hR.get16 h _).bind (f := fun v u => u.inspect16 (.reg r) fun f a => op f a v) fun _ _ _ k => hR.inspect16 k _ _

theorem writesBack {ρ : Type} (h : R s t) (p : Place ρ) : Alike R (s.writesBack p) (t.writesBack p) := by
  cases p with
  | reg r => exact ⟨rfl, h⟩
  | mem g off => exact hR.drawBit h

end Lockstep

end Sys2Proof.Machine

/-! ## Every instruction in lockstep -/

namespace Sys2Proof.Machine

/-- Two instructions end alike: in related states, or refused for the same reason. Neither faults. -/
def EndAlike (R : State → State → Prop) : Result → Result → Prop
  | .next s, .next t => R s t
  | .refused p, .refused q => p = q
  | _, _ => False

variable {R : State → State → Prop} (hR : Lockstep R)

/-- The rest of an instruction after a read. -/
theorem Alike.ends {α : Type} {x y : α × State} (h : Alike R x y) {f : α → State → Result}
    (k : ∀ v u w, R u w → EndAlike R (f v u) (f v w)) : EndAlike R (f x.1 x.2) (f y.1 y.2) := by
  obtain ⟨e, r⟩ := h
  rw [e]
  exact k _ _ _ r

/-! ### The string instructions leave the prefixes armed -/

section

variable (s : State)

@[simp] theorem State.advance_armed (r : Reg16) (n : Word) : (s.advance r n).armed = s.armed := rfl
@[simp] theorem State.movs8_armed : s.movs8.armed = s.armed := by simp [State.movs8]
@[simp] theorem State.movs16_armed : s.movs16.armed = s.armed := by simp [State.movs16]
@[simp] theorem State.cmps8_armed : s.cmps8.armed = s.armed := by simp [State.cmps8]
@[simp] theorem State.cmps16_armed : s.cmps16.armed = s.armed := by simp [State.cmps16]
@[simp] theorem State.scas8_armed : s.scas8.armed = s.armed := by simp [State.scas8]
@[simp] theorem State.scas16_armed : s.scas16.armed = s.armed := by simp [State.scas16]
@[simp] theorem State.lods8_armed : s.lods8.armed = s.armed := by simp [State.lods8]
@[simp] theorem State.lods16_armed : s.lods16.armed = s.armed := by simp [State.lods16]
@[simp] theorem State.stos8_armed : s.stos8.armed = s.armed := by simp [State.stos8]
@[simp] theorem State.stos16_armed : s.stos16.armed = s.armed := by simp [State.stos16]

end

namespace Lockstep

variable {s t : State}

include hR

theorem shift8 (h : R s t) (k : Shift) (e : RM Reg8) (n : Nat) : R (s.shift8 k e n) (t.shift8 k e n) := by
  unfold State.shift8
  rw [hR.place h e]
  dsimp only
  split
  case isTrue =>
    refine (hR.get8 h (s.place e)).bind (f := fun v u =>
      if (u.writesBack (s.place e)).1 then (u.writesBack (s.place e)).2.put8 (s.place e) v
      else (u.writesBack (s.place e)).2) fun v u w l => ?_
    refine (hR.writesBack l (s.place e)).bind (f := fun b u => if b then u.put8 (s.place e) v else u)
      fun b _ _ m => ?_
    split
    · exact hR.put8 m _ _
    · exact m
  case isFalse =>
    refine (hR.get8 h (s.place e)).bind (f := fun v u =>
      ((u.setFlags (u.flags.shifted k n v)).put8 (s.place e) (k.steps n u.flags.cf v).2).undef (k.undefined n))
      fun v u w l => ?_
    obtain ⟨x, rfl⟩ := hR.view l
    exact hR.undef _ (hR.put8 (hR.setFlags l _) _ _)

theorem shift16 (h : R s t) (k : Shift) (e : RM Reg16) (n : Nat) : R (s.shift16 k e n) (t.shift16 k e n) := by
  unfold State.shift16
  rw [hR.place h e]
  dsimp only
  split
  case isTrue =>
    refine (hR.get16 h (s.place e)).bind (f := fun v u =>
      if (u.writesBack (s.place e)).1 then (u.writesBack (s.place e)).2.put16 (s.place e) v
      else (u.writesBack (s.place e)).2) fun v u w l => ?_
    refine (hR.writesBack l (s.place e)).bind (f := fun b u => if b then u.put16 (s.place e) v else u)
      fun b _ _ m => ?_
    split
    · exact hR.put16 m _ _
    · exact m
  case isFalse =>
    refine (hR.get16 h (s.place e)).bind (f := fun v u =>
      ((u.setFlags (u.flags.shifted k n v)).put16 (s.place e) (k.steps n u.flags.cf v).2).undef (k.undefined n))
      fun v u w l => ?_
    obtain ⟨x, rfl⟩ := hR.view l
    exact hR.undef _ (hR.put16 (hR.setFlags l _) _ _)

/-! ### Arithmetic -/

theorem asciiAdjust (h : R s t) (al ah : Byte) : R (s.asciiAdjust al ah) (t.asciiAdjust al ah) := by
  have low : t.reg8 .al = s.reg8 .al := by obtain ⟨x, rfl⟩ := hR.view h; rfl
  have flags : t.flags = s.flags := by obtain ⟨x, rfl⟩ := hR.view h; rfl
  have marked : ∀ {u w} a, R u w → R (u.setFlags { u.flags with af := a, cf := a })
      (w.setFlags { w.flags with af := a, cf := a }) := by
    intro u w a k
    obtain ⟨x, rfl⟩ := hR.view k
    exact hR.setFlags k _
  unfold State.asciiAdjust
  rw [low, flags]
  refine hR.undef _ (marked _ ?_)
  split
  case isTrue => exact hR.setReg8 (hR.setReg8 h _ _) _ _
  case isFalse => exact hR.setReg8 h _ _

theorem decimalAdjust (h : R s t) (valid : Bool) (step : Byte → Byte → Byte) :
    R (s.decimalAdjust valid step) (t.decimalAdjust valid step) := by
  have al : t.reg8 .al = s.reg8 .al := by obtain ⟨x, rfl⟩ := hR.view h; rfl
  have flags : t.flags = s.flags := by obtain ⟨x, rfl⟩ := hR.view h; rfl
  have result : ∀ b, Alike R (if valid then (b, s) else s.drawByte) (if valid then (b, t) else t.drawByte) := by
    intro b
    split
    · exact ⟨rfl, h⟩
    · exact hR.drawByte h
  unfold State.decimalAdjust
  rw [al, flags]
  dsimp only
  exact hR.undef _ ((result _).bind (f := fun v u =>
    (u.setReg8 .al v).setFlags { s.flags.withResult v with af := _, cf := _ }) fun _ _ _ k =>
      hR.setFlags (hR.setReg8 k _ _) _)

theorem productFlags (h : R s t) (wide : Bool) : R (s.productFlags wide) (t.productFlags wide) := by
  obtain ⟨x, rfl⟩ := hR.view h
  exact hR.undef _ (hR.setFlags h _)

theorem setPair (h : R s t) (p : BitVec 32) : R (s.setPair p) (t.setPair p) := hR.setReg16 (hR.setReg16 h _ _) _ _

theorem divideError8 (h : R s t) : R s.divideError8 t.divideError8 :=
  (hR.drawWord h).bind (f := fun v u => ((u.setReg16 .ax v).undef sixFlags).raise 0) fun _ _ _ k =>
    hR.raise (hR.undef _ (hR.setReg16 k _ _)) 0

theorem divideError16 (h : R s t) : R s.divideError16 t.divideError16 :=
  (hR.drawWord h).bind
    (f := fun a u => (((u.drawWord.2.setReg16 .ax a).setReg16 .dx u.drawWord.1).undef sixFlags).raise 0)
    fun a _ _ k => (hR.drawWord k).bind (f := fun d u => (((u.setReg16 .ax a).setReg16 .dx d).undef sixFlags).raise 0)
      fun _ _ _ l => hR.raise (hR.undef _ (hR.setReg16 (hR.setReg16 l _ _) _ _)) 0

/-! ### Control, the stack and strings -/

theorem jumpIf (h : R s t) (c : Bool) (d : Byte) : R (s.jumpIf c d) (t.jumpIf c d) := by
  obtain ⟨x, rfl⟩ := hR.view h
  cases c with
  | true => exact hR.jumpNear h _
  | false => exact h

theorem dropStack (h : R s t) (n : Word) : R (s.dropStack n) (t.dropStack n) := by
  obtain ⟨x, rfl⟩ := hR.view h
  exact hR.setReg16 h _ _

theorem loadSeg (h : R s t) (g : SegReg) (v : Word) : R (s.loadSeg g v) (t.loadSeg g v) :=
  hR.setShadow (hR.setSegReg h g v) .all

theorem pushOperand (h : R s t) (p : Place Reg16) : R (s.pushOperand p) (t.pushOperand p) := by
  unfold State.pushOperand
  split
  case isTrue =>
    obtain ⟨x, rfl⟩ := hR.view h
    exact hR.push16 h _
  case isFalse => exact (hR.get16 h p).bind (f := fun v u => u.push16 v) fun _ _ _ k => hR.push16 k _

theorem decCx (h : R s t) : R s.decCx t.decCx := by
  obtain ⟨x, rfl⟩ := hR.view h
  exact hR.setReg16 h _ _

theorem advance (h : R s t) (r : Reg16) (n : Word) : R (s.advance r n) (t.advance r n) := by
  obtain ⟨x, rfl⟩ := hR.view h
  exact hR.setReg16 h _ _

/-- A repeated string instruction, from one element of it. -/
theorem repeated (h : R s t) {i : Instr} (takes : takesRepeat i = true) (compares : Bool) {f : State → State}
    (armed : ∀ u, (f u).armed = u.armed) (one : ∀ {u w}, R u w → R (f u) (f w)) :
    EndAlike R (s.repeated i compares f) (t.repeated i compares f) := by
  have decided : ∀ {u w} z, R u w → u.armed.rep ≠ none →
      EndAlike R (if u.reg16 .cx = 0 || (compares && u.flags.zf != repeatsWhile z) then .next u
          else .next { u with inProgress := some i })
        (if w.reg16 .cx = 0 || (compares && w.flags.zf != repeatsWhile z) then .next w
          else .next { w with inProgress := some i }) := by
    intro u w z k prefixed
    have same : (decide (w.reg16 .cx = 0) || (compares && w.flags.zf != repeatsWhile z)) =
        (decide (u.reg16 .cx = 0) || (compares && u.flags.zf != repeatsWhile z)) := by
      obtain ⟨x, rfl⟩ := hR.view k
      rfl
    rw [same]
    split
    · exact k
    · exact hR.goOn k i (.inr ⟨takes, prefixed⟩)
  unfold State.repeated
  have same : t.armed = s.armed ∧ t.reg16 .cx = s.reg16 .cx := by
    obtain ⟨x, rfl⟩ := hR.view h
    exact ⟨rfl, rfl⟩
  rw [same.1, same.2]
  cases rep : s.armed.rep with
  | none => exact one h
  | some z =>
    dsimp only
    split
    case isTrue => exact h
    case isFalse =>
      exact decided z (hR.decCx (one h)) (by rw [show (f s).decCx.armed = s.armed from armed s, rep]; simp)

theorem movs8 (h : R s t) : R s.movs8 t.movs8 := by
  obtain ⟨x, rfl⟩ := hR.view h
  refine (hR.readMem8 h (s.overridden .ds) (s.reg16 .si)).bind
    (f := fun v u => ((u.writeMem8 .es (u.reg16 .di) v).advance .si 1).advance .di 1) fun v u w k => ?_
  obtain ⟨y, rfl⟩ := hR.view k
  exact hR.advance (hR.advance (hR.writeMem8 k _ _ _) _ _) _ _

theorem movs16 (h : R s t) : R s.movs16 t.movs16 := by
  obtain ⟨x, rfl⟩ := hR.view h
  refine (hR.readMem16 h (s.overridden .ds) (s.reg16 .si)).bind
    (f := fun v u => ((u.writeMem16 .es (u.reg16 .di) v).advance .si 2).advance .di 2) fun v u w k => ?_
  obtain ⟨y, rfl⟩ := hR.view k
  exact hR.advance (hR.advance (hR.writeMem16 k _ _ _) _ _) _ _

theorem cmps8 (h : R s t) : R s.cmps8 t.cmps8 := by
  obtain ⟨x, rfl⟩ := hR.view h
  refine (hR.readMem8 h (s.overridden .ds) (s.reg16 .si)).bind
    (f := fun a u => (((u.readMem8 .es (u.reg16 .di)).2.setFlags
      ((u.readMem8 .es (u.reg16 .di)).2.flags.diff a (u.readMem8 .es (u.reg16 .di)).1 false)).advance .si 1).advance
      .di 1) fun a u w k => ?_
  obtain ⟨y, rfl⟩ := hR.view k
  refine (hR.readMem8 k .es (u.reg16 .di)).bind
    (f := fun b u => ((u.setFlags (u.flags.diff a b false)).advance .si 1).advance .di 1) fun b v z l => ?_
  obtain ⟨y, rfl⟩ := hR.view l
  exact hR.advance (hR.advance (hR.setFlags l _) _ _) _ _

theorem cmps16 (h : R s t) : R s.cmps16 t.cmps16 := by
  obtain ⟨x, rfl⟩ := hR.view h
  refine (hR.readMem16 h (s.overridden .ds) (s.reg16 .si)).bind
    (f := fun a u => (((u.readMem16 .es (u.reg16 .di)).2.setFlags
      ((u.readMem16 .es (u.reg16 .di)).2.flags.diff a (u.readMem16 .es (u.reg16 .di)).1 false)).advance .si 2).advance
      .di 2) fun a u w k => ?_
  obtain ⟨y, rfl⟩ := hR.view k
  refine (hR.readMem16 k .es (u.reg16 .di)).bind
    (f := fun b u => ((u.setFlags (u.flags.diff a b false)).advance .si 2).advance .di 2) fun b v z l => ?_
  obtain ⟨y, rfl⟩ := hR.view l
  exact hR.advance (hR.advance (hR.setFlags l _) _ _) _ _

theorem scas8 (h : R s t) : R s.scas8 t.scas8 := by
  obtain ⟨x, rfl⟩ := hR.view h
  refine (hR.readMem8 h .es (s.reg16 .di)).bind
    (f := fun b u => (u.setFlags (u.flags.diff (u.reg8 .al) b false)).advance .di 1) fun b u w k => ?_
  obtain ⟨y, rfl⟩ := hR.view k
  exact hR.advance (hR.setFlags k _) _ _

theorem scas16 (h : R s t) : R s.scas16 t.scas16 := by
  obtain ⟨x, rfl⟩ := hR.view h
  refine (hR.readMem16 h .es (s.reg16 .di)).bind
    (f := fun b u => (u.setFlags (u.flags.diff (u.reg16 .ax) b false)).advance .di 2) fun b u w k => ?_
  obtain ⟨y, rfl⟩ := hR.view k
  exact hR.advance (hR.setFlags k _) _ _

theorem lods8 (h : R s t) : R s.lods8 t.lods8 := by
  obtain ⟨x, rfl⟩ := hR.view h
  exact (hR.readMem8 h (s.overridden .ds) (s.reg16 .si)).bind (f := fun v u => (u.setReg8 .al v).advance .si 1)
    fun _ _ _ k => hR.advance (hR.setReg8 k _ _) _ _

theorem lods16 (h : R s t) : R s.lods16 t.lods16 := by
  obtain ⟨x, rfl⟩ := hR.view h
  exact (hR.readMem16 h (s.overridden .ds) (s.reg16 .si)).bind (f := fun v u => (u.setReg16 .ax v).advance .si 2)
    fun _ _ _ k => hR.advance (hR.setReg16 k _ _) _ _

theorem stos8 (h : R s t) : R s.stos8 t.stos8 := by
  obtain ⟨x, rfl⟩ := hR.view h
  exact hR.advance (hR.writeMem8 h _ _ _) _ _

theorem stos16 (h : R s t) : R s.stos16 t.stos16 := by
  obtain ⟨x, rfl⟩ := hR.view h
  exact hR.advance (hR.writeMem16 h _ _ _) _ _

/-! ### Instructions with a choice of their own -/

theorem mulRm8 (h : R s t) (e : RM Reg8) : EndAlike R (exec (.mulRm8 e) s) (exec (.mulRm8 e) t) := by
  have same := hR.place h e
  refine (same ▸ hR.get8 h (s.place e) : Alike R (s.get8 (s.place e)) (t.get8 (t.place e))).ends (f := fun v u =>
    .next ((u.setReg16 .ax ((u.reg8 .al).setWidth 16 * v.setWidth 16)).productFlags
      (decide (highByte ((u.reg8 .al).setWidth 16 * v.setWidth 16) ≠ 0)))) fun v u w k => ?_
  obtain ⟨x, rfl⟩ := hR.view k
  exact hR.productFlags (hR.setReg16 k _ _) _

theorem imulRm8 (h : R s t) (e : RM Reg8) : EndAlike R (exec (.imulRm8 e) s) (exec (.imulRm8 e) t) := by
  have same := hR.place h e
  refine (same ▸ hR.get8 h (s.place e) : Alike R (s.get8 (s.place e)) (t.get8 (t.place e))).ends (f := fun v u =>
    .next ((u.setReg16 .ax ((u.reg8 .al).signExtend 16 * v.signExtend 16)).productFlags
      (decide ((u.reg8 .al).signExtend 16 * v.signExtend 16 ≠
        (lowByte ((u.reg8 .al).signExtend 16 * v.signExtend 16)).signExtend 16)))) fun v u w k => ?_
  obtain ⟨x, rfl⟩ := hR.view k
  exact hR.productFlags (hR.setReg16 k _ _) _

theorem mulRm16 (h : R s t) (e : RM Reg16) : EndAlike R (exec (.mulRm16 e) s) (exec (.mulRm16 e) t) := by
  have same := hR.place h e
  refine (same ▸ hR.get16 h (s.place e) : Alike R (s.get16 (s.place e)) (t.get16 (t.place e))).ends (f := fun v u =>
    .next ((u.setPair ((u.reg16 .ax).setWidth 32 * v.setWidth 32)).productFlags
      (decide (((u.reg16 .ax).setWidth 32 * v.setWidth 32).extractLsb' 16 16 ≠ 0)))) fun v u w k => ?_
  obtain ⟨x, rfl⟩ := hR.view k
  exact hR.productFlags (hR.setPair k _) _

theorem imulRm16 (h : R s t) (e : RM Reg16) : EndAlike R (exec (.imulRm16 e) s) (exec (.imulRm16 e) t) := by
  have same := hR.place h e
  refine (same ▸ hR.get16 h (s.place e) : Alike R (s.get16 (s.place e)) (t.get16 (t.place e))).ends (f := fun v u =>
    .next ((u.setPair ((u.reg16 .ax).signExtend 32 * v.signExtend 32)).productFlags
      (decide ((u.reg16 .ax).signExtend 32 * v.signExtend 32 ≠
        (((u.reg16 .ax).signExtend 32 * v.signExtend 32).extractLsb' 0 16).signExtend 32)))) fun v u w k => ?_
  obtain ⟨x, rfl⟩ := hR.view k
  exact hR.productFlags (hR.setPair k _) _

/-- A division of a byte divisor, which does not fit (`c`) or leaves a quotient and a remainder. -/
theorem quotient8 (h : R s t) (c : Prop) [Decidable c] (q r : Byte) :
    EndAlike R (if c then .next s.divideError8 else .next (((s.setReg8 .al q).setReg8 .ah r).undef sixFlags))
      (if c then .next t.divideError8 else .next (((t.setReg8 .al q).setReg8 .ah r).undef sixFlags)) := by
  split
  · exact hR.divideError8 h
  · exact hR.undef _ (hR.setReg8 (hR.setReg8 h _ _) _ _)

/-- A division of a word divisor. -/
theorem quotient16 (h : R s t) (c : Prop) [Decidable c] (q r : Word) :
    EndAlike R (if c then .next s.divideError16 else .next (((s.setReg16 .ax q).setReg16 .dx r).undef sixFlags))
      (if c then .next t.divideError16 else .next (((t.setReg16 .ax q).setReg16 .dx r).undef sixFlags)) := by
  split
  · exact hR.divideError16 h
  · exact hR.undef _ (hR.setReg16 (hR.setReg16 h _ _) _ _)

theorem divRm8 (h : R s t) (e : RM Reg8) : EndAlike R (exec (.divRm8 e) s) (exec (.divRm8 e) t) := by
  obtain ⟨value, next⟩ := hR.get8 h (s.place e)
  rw [show exec (.divRm8 e) t = execDivRm8 e t from rfl, execDivRm8, hR.place h e, ← value]
  obtain ⟨x, same⟩ := hR.view next
  rw [same] at next ⊢
  exact hR.quotient8 next _ _ _

theorem idivRm8 (h : R s t) (e : RM Reg8) : EndAlike R (exec (.idivRm8 e) s) (exec (.idivRm8 e) t) := by
  obtain ⟨value, next⟩ := hR.get8 h (s.place e)
  rw [show exec (.idivRm8 e) t = execIdivRm8 e t from rfl, execIdivRm8, hR.place h e, ← value]
  obtain ⟨x, same⟩ := hR.view next
  rw [same] at next ⊢
  exact hR.quotient8 next _ _ _

theorem divRm16 (h : R s t) (e : RM Reg16) : EndAlike R (exec (.divRm16 e) s) (exec (.divRm16 e) t) := by
  obtain ⟨value, next⟩ := hR.get16 h (s.place e)
  rw [show exec (.divRm16 e) t = execDivRm16 e t from rfl, execDivRm16, hR.place h e, ← value]
  obtain ⟨x, same⟩ := hR.view next
  rw [same] at next ⊢
  exact hR.quotient16 next _ _ _

theorem idivRm16 (h : R s t) (e : RM Reg16) : EndAlike R (exec (.idivRm16 e) s) (exec (.idivRm16 e) t) := by
  obtain ⟨value, next⟩ := hR.get16 h (s.place e)
  rw [show exec (.idivRm16 e) t = execIdivRm16 e t from rfl, execIdivRm16, hR.place h e, ← value]
  obtain ⟨x, same⟩ := hR.view next
  rw [same] at next ⊢
  exact hR.quotient16 next _ _ _

theorem callRm16 (h : R s t) (e : RM Reg16) : EndAlike R (exec (.callRm16 e) s) (exec (.callRm16 e) t) := by
  have same := hR.place h e
  refine (same ▸ hR.get16 h (s.place e) : Alike R (s.get16 (s.place e)) (t.get16 (t.place e))).ends
    (f := fun v u => .next ((u.push16 u.ip).jumpNear v)) fun v u w k => ?_
  obtain ⟨x, rfl⟩ := hR.view k
  exact hR.jumpNear (hR.push16 k _) _

theorem callFarM (h : R s t) (m : MemOp) : EndAlike R (exec (.callFarM m) s) (exec (.callFarM m) t) := by
  refine (hR.readFar h m).ends (f := fun p u => .next (((u.push16 (u.segReg .cs)).push16 u.ip).jumpFar p.2 p.1))
    fun v u w k => ?_
  obtain ⟨x, rfl⟩ := hR.view k
  exact hR.jumpFar (hR.push16 (hR.push16 k _) _) _ _

theorem inAxDx (h : R s t) : EndAlike R (exec .inAxDx s) (exec .inAxDx t) := by
  have dx : t.reg16 .dx = s.reg16 .dx := by obtain ⟨x, rfl⟩ := hR.view h; rfl
  rw [show exec .inAxDx t = execInAxDx t from rfl, show exec .inAxDx s = execInAxDx s from rfl, execInAxDx, execInAxDx,
    dx]
  split
  · rfl
  · exact (hR.ioRead16 h _).ends (f := fun v u => .next (u.setReg16 .ax v)) fun _ _ _ k => hR.setReg16 k _ _

theorem outDxAx (h : R s t) : EndAlike R (exec .outDxAx s) (exec .outDxAx t) := by
  have dx : t.reg16 .dx = s.reg16 .dx := by obtain ⟨x, rfl⟩ := hR.view h; rfl
  have ax : t.reg16 .ax = s.reg16 .ax := by obtain ⟨x, rfl⟩ := hR.view h; rfl
  rw [show exec .outDxAx t = execOutDxAx t from rfl, show exec .outDxAx s = execOutDxAx s from rfl, execOutDxAx,
    execOutDxAx, dx, ax]
  split
  · rfl
  · exact hR.ioWrite16 h _ _

theorem into (h : R s t) : EndAlike R (exec .into s) (exec .into t) := by
  have flags : t.flags = s.flags := by obtain ⟨x, rfl⟩ := hR.view h; rfl
  rw [show exec .into t = execInto t from rfl, show exec .into s = execInto s from rfl, execInto, execInto, flags]
  split
  · exact hR.raise h 4
  · exact h

theorem wait (h : R s t) : EndAlike R (exec .wait s) (exec .wait t) := by
  have test : t.pins.test = s.pins.test := by obtain ⟨x, rfl⟩ := hR.view h; rfl
  rw [show exec .wait t = execWait t from rfl, show exec .wait s = execWait s from rfl, execWait, execWait, test]
  split
  · exact hR.goOn h .wait (.inl rfl)
  · exact h

/-- A relation that every shared operation keeps, every instruction keeps. -/
theorem exec (h : R s t) (i : Instr) : EndAlike R (exec i s) (exec i t) := by
  obtain ⟨x, rfl⟩ := hR.view h
  exact match i with
  | .addRm8R8 _ _ | .addAlImm8 _ | .adcRm8R8 _ _ | .adcAlImm8 _ | .sbbRm8R8 _ _ | .sbbAlImm8 _ | .subRm8R8 _ _
  | .subAlImm8 _ | .addRm8Imm8 _ _ | .adcRm8Imm8 _ _ | .sbbRm8Imm8 _ _ | .subRm8Imm8 _ _ | .addRm8Imm8Alt _ _
  | .adcRm8Imm8Alt _ _ | .sbbRm8Imm8Alt _ _ | .subRm8Imm8Alt _ _ => hR.aluTo8 h _ _ _
  | .addRm16R16 _ _ | .addAxImm16 _ | .adcRm16R16 _ _ | .adcAxImm16 _ | .sbbRm16R16 _ _ | .sbbAxImm16 _
  | .subRm16R16 _ _ | .subAxImm16 _ | .addRm16Imm16 _ _ | .adcRm16Imm16 _ _ | .sbbRm16Imm16 _ _
  | .subRm16Imm16 _ _ | .addRm16Simm8 _ _ | .adcRm16Simm8 _ _ | .sbbRm16Simm8 _ _ | .subRm16Simm8 _ _ =>
    hR.aluTo16 h _ _ _
  | .addR8Rm8 _ _ | .adcR8Rm8 _ _ | .sbbR8Rm8 _ _ | .subR8Rm8 _ _ => hR.aluFrom8 h _ _ _
  | .addR16Rm16 _ _ | .adcR16Rm16 _ _ | .sbbR16Rm16 _ _ | .subR16Rm16 _ _ => hR.aluFrom16 h _ _ _
  | .orRm8R8 _ _ | .orAlImm8 _ | .andRm8R8 _ _ | .andAlImm8 _ | .xorRm8R8 _ _ | .xorAlImm8 _ | .orRm8Imm8 _ _
  | .andRm8Imm8 _ _ | .xorRm8Imm8 _ _ => hR.undef _ (hR.aluTo8 h _ _ _)
  | .orRm16R16 _ _ | .orAxImm16 _ | .andRm16R16 _ _ | .andAxImm16 _ | .xorRm16R16 _ _ | .xorAxImm16 _
  | .orRm16Imm16 _ _ | .andRm16Imm16 _ _ | .xorRm16Imm16 _ _ => hR.undef _ (hR.aluTo16 h _ _ _)
  | .orR8Rm8 _ _ | .andR8Rm8 _ _ | .xorR8Rm8 _ _ => hR.undef _ (hR.aluFrom8 h _ _ _)
  | .orR16Rm16 _ _ | .andR16Rm16 _ _ | .xorR16Rm16 _ _ => hR.undef _ (hR.aluFrom16 h _ _ _)
  | .cmpRm8R8 _ _ | .cmpAlImm8 _ | .cmpRm8Imm8 _ _ | .cmpRm8Imm8Alt _ _ => hR.testTo8 h _ _ _
  | .cmpRm16R16 _ _ | .cmpAxImm16 _ | .cmpRm16Imm16 _ _ | .cmpRm16Simm8 _ _ => hR.testTo16 h _ _ _
  | .cmpR8Rm8 _ _ => hR.testFrom8 h _ _ _
  | .cmpR16Rm16 _ _ => hR.testFrom16 h _ _ _
  | .incR16 _ | .decR16 _ => hR.update16 h _ _
  | .incRm8 _ | .decRm8 _ | .negRm8 _ | .notRm8 _ => hR.update8 h _ _
  | .incRm16 _ | .decRm16 _ | .negRm16 _ | .notRm16 _ => hR.update16 h _ _
  | .testRm8R8 _ _ | .testAlImm8 _ | .testRm8Imm8 _ _ => hR.undef _ (hR.testTo8 h _ _ _)
  | .testRm16R16 _ _ | .testAxImm16 _ | .testRm16Imm16 _ _ => hR.undef _ (hR.testTo16 h _ _ _)
  | .rolRm8One _ | .rolRm8Cl _ | .rorRm8One _ | .rorRm8Cl _ | .rclRm8One _ | .rclRm8Cl _ | .rcrRm8One _
  | .rcrRm8Cl _ | .shlRm8One _ | .shlRm8Cl _ | .shrRm8One _ | .shrRm8Cl _ | .sarRm8One _ | .sarRm8Cl _ =>
    hR.shift8 h _ _ _
  | .rolRm16One _ | .rolRm16Cl _ | .rorRm16One _ | .rorRm16Cl _ | .rclRm16One _ | .rclRm16Cl _ | .rcrRm16One _
  | .rcrRm16Cl _ | .shlRm16One _ | .shlRm16Cl _ | .shrRm16One _ | .shrRm16Cl _ | .sarRm16One _ | .sarRm16Cl _ =>
    hR.shift16 h _ _ _
  | .jo _ | .jno _ | .jb _ | .jnb _ | .je _ | .jne _ | .jbe _ | .jnbe _ | .js _ | .jns _ | .jp _ | .jnp _
  | .jl _ | .jnl _ | .jle _ | .jnle _ | .jcxz _ => hR.jumpIf h _ _
  | .intN _ | .int3 => hR.raise h _
  | .clc | .cmc | .stc | .cld | .std | .cli => hR.setFlags h _
  | .esOverride | .csOverride | .ssOverride | .dsOverride => hR.arm h _ id
  | .pushEs | .pushCs | .pushSs | .pushDs | .pushf => hR.push16 h _
  | .pushR16 _ | .pushRm16 _ => hR.pushOperand h _
  | .popEs => (hR.pop16 h).ends (f := fun v u => .next (u.loadSeg .es v)) fun _ _ _ k => hR.loadSeg k _ _
  | .movEsRm16 _ => (hR.get16 h _).ends (f := fun v u => .next (u.loadSeg .es v)) fun _ _ _ k => hR.loadSeg k _ _
  | .popSs => (hR.pop16 h).ends (f := fun v u => .next (u.loadSeg .ss v)) fun _ _ _ k => hR.loadSeg k _ _
  | .movSsRm16 _ => (hR.get16 h _).ends (f := fun v u => .next (u.loadSeg .ss v)) fun _ _ _ k => hR.loadSeg k _ _
  | .popDs => (hR.pop16 h).ends (f := fun v u => .next (u.loadSeg .ds v)) fun _ _ _ k => hR.loadSeg k _ _
  | .movDsRm16 _ => (hR.get16 h _).ends (f := fun v u => .next (u.loadSeg .ds v)) fun _ _ _ k => hR.loadSeg k _ _
  | .popR16 r => (hR.pop16 h).ends (f := fun v u => .next (u.setReg16 r v)) fun _ _ _ k => hR.setReg16 k _ _
  | .popRm16 e => (hR.pop16 h).ends (f := fun v u => .next (u.put16 (s.place e) v)) fun _ _ _ k => hR.put16 k _ _
  | .popf => (hR.pop16 h).ends (f := fun v u => .next (u.setFlags (Flags.ofImage v))) fun _ _ _ k => hR.setFlags k _
  | .movRm8R8 _ _ | .movRm8Imm8 _ _ => hR.put8 h _ _
  | .movRm16R16 _ _ | .movRm16Sreg _ _ | .movRm16Imm16 _ _ => hR.put16 h _ _
  | .movR8Rm8 r e => (hR.get8 h _).ends (f := fun v u => .next (u.setReg8 r v)) fun _ _ _ k => hR.setReg8 k _ _
  | .movR16Rm16 r e => (hR.get16 h _).ends (f := fun v u => .next (u.setReg16 r v)) fun _ _ _ k => hR.setReg16 k _ _
  | .movAlMoffs _ | .xlat =>
    (hR.readMem8 h _ _).ends (f := fun v u => .next (u.setReg8 .al v)) fun _ _ _ k => hR.setReg8 k _ _
  | .movAxMoffs _ =>
    (hR.readMem16 h _ _).ends (f := fun v u => .next (u.setReg16 .ax v)) fun _ _ _ k => hR.setReg16 k _ _
  | .movMoffsAl _ => hR.writeMem8 h _ _ _
  | .movMoffsAx _ => hR.writeMem16 h _ _ _
  | .movR8Imm8 _ _ => hR.setReg8 h _ _
  | .movR16Imm16 _ _ | .lea _ _ | .cbw | .cwd => hR.setReg16 h _ _
  | .xchgR8Rm8 r e =>
    (hR.get8 h _).ends (f := fun v u => .next ((u.put8 (s.place e) (s.reg8 r)).setReg8 r v)) fun _ _ _ k =>
      hR.setReg8 (hR.put8 k _ _) _ _
  | .xchgR16Rm16 r e =>
    (hR.get16 h _).ends (f := fun v u => .next ((u.put16 (s.place e) (s.reg16 r)).setReg16 r v)) fun _ _ _ k =>
      hR.setReg16 (hR.put16 k _ _) _ _
  | .xchgAxR16 _ => hR.setReg16 (hR.setReg16 h _ _) _ _
  | .lds r m =>
    (hR.readFar h _).ends (f := fun p u => .next ((u.setReg16 r p.1).setSegReg .ds p.2)) fun _ _ _ k =>
      hR.setSegReg (hR.setReg16 k _ _) _ _
  | .les r m =>
    (hR.readFar h _).ends (f := fun p u => .next ((u.setReg16 r p.1).setSegReg .es p.2)) fun _ _ _ k =>
      hR.setSegReg (hR.setReg16 k _ _) _ _
  | .lahf => hR.setReg8 (hR.draw (hR.draw (hR.draw h))) _ _
  | .inAlImm8 _ | .inAlDx =>
    (hR.ioRead8 h _).ends (f := fun v u => .next (u.setReg8 .al v)) fun _ _ _ k => hR.setReg8 k _ _
  | .inAxImm8 _ => (hR.ioRead16 h _).ends (f := fun v u => .next (u.setReg16 .ax v)) fun _ _ _ k => hR.setReg16 k _ _
  | .inAxDx => hR.inAxDx h
  | .outDxAx => hR.outDxAx h
  | .outImm8Al _ | .outDxAl => hR.ioWrite8 h _ _
  | .outImm8Ax _ => hR.ioWrite16 h _ _
  | .aaa | .aas => hR.asciiAdjust h _ _
  | .daa | .das => hR.decimalAdjust h _ _
  | .aam | .aad => hR.undef _ (hR.setFlags (hR.setReg8 (hR.setReg8 h _ _) _ _) _)
  | .mulRm8 e => hR.mulRm8 h e
  | .mulRm16 e => hR.mulRm16 h e
  | .imulRm8 e => hR.imulRm8 h e
  | .imulRm16 e => hR.imulRm16 h e
  | .divRm8 e => hR.divRm8 h e
  | .divRm16 e => hR.divRm16 h e
  | .idivRm8 e => hR.idivRm8 h e
  | .idivRm16 e => hR.idivRm16 h e
  | .movsb => hR.repeated h rfl false State.movs8_armed hR.movs8
  | .movsw => hR.repeated h rfl false State.movs16_armed hR.movs16
  | .cmpsb => hR.repeated h rfl true State.cmps8_armed hR.cmps8
  | .cmpsw => hR.repeated h rfl true State.cmps16_armed hR.cmps16
  | .stosb => hR.repeated h rfl false State.stos8_armed hR.stos8
  | .stosw => hR.repeated h rfl false State.stos16_armed hR.stos16
  | .lodsb => hR.repeated h rfl false State.lods8_armed hR.lods8
  | .lodsw => hR.repeated h rfl false State.lods16_armed hR.lods16
  | .scasb => hR.repeated h rfl true State.scas8_armed hR.scas8
  | .scasw => hR.repeated h rfl true State.scas16_armed hR.scas16
  | .repne | .rep => hR.arm h _ fun _ => Option.some_ne_none _
  | .callRel16 _ => hR.jumpNear (hR.push16 h _) _
  | .callRm16 _ => hR.callRm16 h _
  | .callFar _ _ => hR.jumpFar (hR.push16 (hR.push16 h _) _) _ _
  | .callFarM _ => hR.callFarM h _
  | .jmpRel16 _ | .jmpRel8 _ => hR.jumpNear h _
  | .jmpRm16 _ => (hR.get16 h _).ends (f := fun v u => .next (u.jumpNear v)) fun _ _ _ k => hR.jumpNear k _
  | .jmpFar _ _ => hR.jumpFar h _ _
  | .jmpFarM _ => (hR.readFar h _).ends (f := fun p u => .next (u.jumpFar p.2 p.1)) fun _ _ _ k => hR.jumpFar k _ _
  | .retNear => (hR.pop16 h).ends (f := fun v u => .next (u.jumpNear v)) fun _ _ _ k => hR.jumpNear k _
  | .retNearImm16 v =>
    (hR.pop16 h).ends (f := fun r u => .next ((u.dropStack v).jumpNear r)) fun _ _ _ k =>
      hR.jumpNear (hR.dropStack k _) _
  | .retFar =>
    (hR.pop16 h).ends (f := fun r u => .next (u.pop16.2.jumpFar u.pop16.1 r)) fun r _ _ k =>
      (hR.pop16 k).ends (f := fun c u => .next (u.jumpFar c r)) fun _ _ _ l => hR.jumpFar l _ _
  | .retFarImm16 v =>
    (hR.pop16 h).ends (f := fun r u => .next ((u.pop16.2.dropStack v).jumpFar u.pop16.1 r)) fun r _ _ k =>
      (hR.pop16 k).ends (f := fun c u => .next ((u.dropStack v).jumpFar c r)) fun _ _ _ l =>
        hR.jumpFar (hR.dropStack l _) _ _
  | .loop _ | .loope _ | .loopne _ => hR.jumpIf (hR.decCx h) _ _
  | .into => hR.into h
  | .iret => hR.interruptReturn h
  | .esc _ (.reg _) => h
  | .esc _ (.mem _) => (hR.readMem16 h _ _).2
  | .notUsed _ _ => rfl
  | .sahf => hR.setFlags h _
  | .sti => hR.setShadow (hR.setFlags h _) _
  | .nop => h
  | .lock => hR.arm (hR.lock h) _ id
  | .wait => hR.wait h
  | .hlt => hR.setHalted (hR.haltCycle h) true

end Lockstep

end Sys2Proof.Machine

/-! ## Under #LOCK -/

namespace Sys2Proof.Machine

open Claims

/-- The CPU has the bus for as long as its instruction is locked. -/
structure State.LocksOut (s : State) : Prop where
  lock : s.lockActive = true
  ready : s.hung = false
  owner : s.owner = .cpu
  ch0 : s.ch0 ≠ .granted
  ch1 : s.ch1 ≠ .granted

/-- Two locked runs, beside which other masters try `a` and `b`: they have passed as many points, and are otherwise the
same state. -/
def BesideMasters (a b : List (List Event)) (s t : State) : Prop :=
  s.LocksOut ∧ ∃ n, s.flight = { Flight.idle with gaps := a.drop n } ∧
    t = { s with flight := { Flight.idle with gaps := b.drop n } }

variable {a b : List (List Event)}

/-- A locked cycle passes one point and is otherwise the action of the cycle. -/
theorem State.cycle_lockedOut {s : State} (out : s.LocksOut) {c : List (List Event)}
    (foreign : ∀ es ∈ c, ∀ e ∈ es, Foreign e)
    {n : Nat} (flight : s.flight = { Flight.idle with gaps := c.drop n }) {f : State → Lanes × State} {l : Lanes}
    {m : List Host.Cell} {d : List Device} {x : Nat}
    (acts : ∀ y, f { s with flight := y } = (l, { s with flight := y, mem := m, devices := d, floats := x }))
    (pt : Point) (k : BusKind) (addr : Option Addr) (g : Option SegReg) :
    s.cycle pt k addr g f = (l, { s with
      flight := { Flight.idle with gaps := c.drop (n + 1) }, mem := m, devices := d, floats := x, waits := 0,
      log := { s.log with cycles := s.log.cycles ++ [s.busCycle k addr g l] } }) := by
  have gaps : s.flight.gaps = c.drop n := by rw [flight]
  rw [State.cycle_foreign s pt k addr g f (fun es h => foreign es (List.mem_of_mem_drop (gaps ▸ h))) out.lock out.owner
    out.ready out.ch0 out.ch1 (by rw [flight]; rfl) (by rw [flight]; rfl) (by rw [flight]; rfl), acts, flight,
    List.drop_drop]
  rfl

theorem besideMasters_cycle (fa : ∀ es ∈ a, ∀ e ∈ es, Foreign e) (fb : ∀ es ∈ b, ∀ e ∈ es, Foreign e) {s t : State}
    (h : BesideMasters a b s t) {f : State → Lanes × State} (hf : Moves f) (pt : Point) (k : BusKind)
    (addr : Option Addr) (g : Option SegReg) :
    Alike (BesideMasters a b) (s.cycle pt k addr g f) (t.cycle pt k addr g f) := by
  obtain ⟨out, n, flight, rfl⟩ := h
  obtain ⟨l, m, d, x, acts⟩ := hf.beside s
  rw [State.cycle_lockedOut out fa flight acts,
    State.cycle_lockedOut (s := { s with flight := { Flight.idle with gaps := b.drop n } }) (n := n)
      ⟨out.lock, out.ready, out.owner, out.ch0, out.ch1⟩ fb rfl acts]
  exact ⟨rfl, ⟨out.lock, out.ready, out.owner, out.ch0, out.ch1⟩, n + 1, rfl, rfl⟩

/-- The queue is emptied at a point of its own. -/
theorem State.flushQueue_lockedOut {s : State} (out : s.LocksOut) {c : List (List Event)}
    (foreign : ∀ es ∈ c, ∀ e ∈ es, Foreign e) {n : Nat} (flight : s.flight = { Flight.idle with gaps := c.drop n }) :
    s.flushQueue = { s.emptyQueue with flight := { Flight.idle with gaps := c.drop (n + 1) } } := by
  have gaps : s.flight.gaps = c.drop n := by rw [flight]
  unfold State.flushQueue
  rw [State.pass_foreign s .between (fun es h => foreign es (List.mem_of_mem_drop (gaps ▸ h))) out.lock out.owner
    out.ch0 out.ch1 (by rw [flight]; rfl) (by rw [flight]; rfl), flight, List.drop_drop]
  rfl

theorem besideMasters_flush (fa : ∀ es ∈ a, ∀ e ∈ es, Foreign e) (fb : ∀ es ∈ b, ∀ e ∈ es, Foreign e) {s t : State}
    (h : BesideMasters a b s t) : BesideMasters a b s.flushQueue t.flushQueue := by
  obtain ⟨out, n, flight, rfl⟩ := h
  rw [State.flushQueue_lockedOut out fa flight,
    State.flushQueue_lockedOut (s := { s with flight := { Flight.idle with gaps := b.drop n } }) (n := n)
      ⟨out.lock, out.ready, out.owner, out.ch0, out.ch1⟩ fb rfl]
  exact ⟨⟨out.lock, out.ready, out.owner, out.ch0, out.ch1⟩, n + 1, rfl, rfl⟩

theorem lockstep_besideMasters (fa : ∀ es ∈ a, ∀ e ∈ es, Foreign e) (fb : ∀ es ∈ b, ∀ e ∈ es, Foreign e) :
    Lockstep (BesideMasters a b) where
  view := fun ⟨_, _, _, same⟩ => ⟨_, same⟩
  own := by
    rintro s _ ⟨⟨lock, ready, owner, ch0, ch1⟩, n, flight, rfl⟩ _ _ _ _ _ _ _ _
    exact ⟨⟨lock, ready, owner, ch0, ch1⟩, n, flight, rfl⟩
  arm := by
    rintro s _ ⟨⟨lock, ready, owner, ch0, ch1⟩, n, flight, rfl⟩ _ _
    exact ⟨⟨lock, ready, owner, ch0, ch1⟩, n, flight, rfl⟩
  lock := by
    rintro s _ ⟨⟨lock, ready, owner, ch0, ch1⟩, n, flight, rfl⟩
    refine ⟨⟨?_, ready, owner, ch0, ch1⟩, n, flight, rfl⟩
    simp only [State.lockActive, Bool.and_eq_true] at lock
    simp [State.lockActive, of_decide_eq_true lock.2]
  goOn := by
    rintro s _ ⟨⟨lock, ready, owner, ch0, ch1⟩, n, flight, rfl⟩ _ _
    exact ⟨⟨lock, ready, owner, ch0, ch1⟩, n, flight, rfl⟩
  cycle := fun h _ hf pt k addr g => besideMasters_cycle fa fb h hf pt k addr g
  flush := besideMasters_flush fa fb

end Sys2Proof.Machine

namespace Sys2Proof

open Machine

/-- Settles O10: the run beside which other masters try `a` and the one beside which they try `b` go in lockstep. -/
theorem lockExcludesMasters : Obligations.LockExcludesMasters := by
  intro i s t a b lock ready owner ch0 ch1 foreign ends
  have start : BesideMasters a b { s with flight := { Flight.idle with gaps := a } }
      { s with flight := { Flight.idle with gaps := b } } := ⟨⟨lock, ready, owner, ch0, ch1⟩, 0, rfl, rfl⟩
  have alike := (lockstep_besideMasters (fun es h => foreign es (List.mem_append_left b h))
    (fun es h => foreign es (List.mem_append_right a h))).exec start i
  rw [ends] at alike
  match other : exec i { s with flight := { Flight.idle with gaps := b } }, alike with
  | .next u, ⟨_, n, flight, same⟩ => exact ⟨n, flight, by rw [same]⟩

end Sys2Proof

/-! ## What a turn keeps

A single run goes in lockstep with itself: a property that the shared operations keep is kept by every instruction, and,
where it does not look at what a boundary decides, by a turn of the CPU. -/

namespace Sys2Proof.Machine

/-- A property of one run that the shared operations keep. -/
structure Kept (P : State → Prop) : Prop where
  own : ∀ {s : State}, P s → ∀ (g : Regs) (q : Segs) (v : Word) (f : Flags) (b : Bool)
    (w : Shadow) (o : Trap) (n : Nat),
    P { s with regs := g, segs := q, ip := v, flags := f, halted := b, shadow := w, trap := o, draws := n }
  arm : ∀ {s : State}, P s → ∀ a : Armed, (s.armed.rep ≠ none → a.rep ≠ none) → P { s with armed := a }
  lock : ∀ {s : State}, P s → P { s with locked := true }
  goOn : ∀ {s : State}, P s → ∀ i, (i = .wait ∨ (takesRepeat i = true ∧ s.armed.rep ≠ none)) →
    P { s with inProgress := some i }
  cycle : ∀ {s : State}, P s → ∀ {f}, Moves f → ∀ pt k a g, P (s.cycle pt k a g f).2
  flush : ∀ {s : State}, P s → P s.flushQueue

theorem Kept.lockstep {P : State → Prop} (h : Kept P) : Lockstep fun s t => t = s ∧ P s where
  view := fun ⟨same, _⟩ => ⟨_, same⟩
  own := fun ⟨same, p⟩ _ _ _ _ _ _ _ _ => ⟨by rw [same], h.own p _ _ _ _ _ _ _ _⟩
  arm := fun ⟨same, p⟩ _ keeps => ⟨by rw [same], h.arm p _ keeps⟩
  lock := fun ⟨same, p⟩ => ⟨by rw [same], h.lock p⟩
  goOn := fun ⟨same, p⟩ _ fits => ⟨by rw [same], h.goOn p _ fits⟩
  cycle := fun ⟨same, p⟩ _ hf _ _ _ _ => by rw [same]; exact ⟨rfl, rfl, h.cycle p hf _ _ _ _⟩
  flush := fun ⟨same, p⟩ => by rw [same]; exact ⟨rfl, h.flush p⟩

theorem Kept.exec {P : State → Prop} (h : Kept P) {s t : State} {i : Instr} (p : P s) (ends : exec i s = .next t) :
    P t := by
  have alike := h.lockstep.exec ⟨rfl, p⟩ i
  rw [ends] at alike
  exact alike.2

theorem Kept.interrupt {P : State → Prop} (h : Kept P) {s : State} (p : P s) (n : Byte) (rcs rip : Word) :
    P (s.interrupt n rcs rip) := (h.lockstep.interrupt ⟨rfl, p⟩ n rcs rip).2

theorem Kept.acknowledge {P : State → Prop} (h : Kept P) {s : State} (p : P s) : P s.acknowledge.2 :=
  (h.lockstep.acknowledge ⟨rfl, p⟩).2.2

theorem kept_true : Kept fun _ => True where
  own := fun _ _ _ _ _ _ _ _ _ => trivial
  arm := fun _ _ _ => trivial
  lock := fun _ => trivial
  goOn := fun _ _ _ => trivial
  cycle := fun _ _ _ _ _ _ _ => trivial
  flush := fun _ => trivial

/-- No instruction faults. -/
theorem exec_ne_fault (i : Instr) (s : State) (f : Fault) : exec i s ≠ .fault f := by
  intro ends
  have alike := kept_true.lockstep.exec (s := s) ⟨rfl, trivial⟩ i
  rw [ends] at alike
  exact alike

/-- A property that what a boundary decides does not touch, and that a task which waits has of the state it began with
and the one it reached. -/
structure KeptByTurn (P : State → Prop) : Prop extends Kept P where
  free : ∀ {s : State}, P s → ∀ (latch started : Bool) (m : Option Midway) (past : List Lanes),
    P { s with nmiLatch := latch, unstarted := started, midway := m, flight := { s.flight with again := past } }
  release : ∀ {s : State}, P s → ∀ (l : Bool) (a : Armed), P { s with inProgress := none, locked := l, armed := a }
  hold : ∀ {s t : State}, P s → P t → ∀ w, P (s.hold t w)

namespace KeptByTurn

variable {P : State → Prop} (h : KeptByTurn P) {s t : State}

include h

theorem start (p : P s) : P s.start :=
  h.free (h.release (h.own p s.regs s.segs s.ip s.flags s.halted .none (if s.flags.tf then .stepped else .none) s.draws)
    s.locked { s.armed with pending := false }) s.nmiLatch false s.midway s.flight.again

theorem withRegisters (p : P s) (r : Registers) : P (s.withRegisters r) :=
  h.own p r.regs r.segs r.ip r.flags s.halted s.shadow s.trap s.draws

theorem finish (p : P t) (s : State) : P (s.finish t) := by
  have shadowed : ∀ (w : Shadow) (o : Trap), P { t with shadow := w, trap := o } := fun w o =>
    h.own p t.regs t.segs t.ip t.flags t.halted w o t.draws
  unfold State.finish
  split
  case isTrue => exact shadowed s.shadow s.trap
  case isFalse =>
    split
    case h_1 => exact shadowed s.shadow s.trap
    case h_2 => exact shadowed s.shadow t.trap
    case h_3 ended =>
      have same : t.disarm = { t with inProgress := none, locked := false,
                                      armed := { t.armed with pending := false, seg := none, rep := none } } := by
        rw [← ended]; rfl
      rw [same]
      exact h.release p _ _

theorem runInstr {i : Instr} (p : P s) (ends : s.runInstr .layerG i = .next t) : P t := by
  unfold State.runInstr at ends
  split at ends
  case isTrue =>
    split at ends
    case h_1 u run =>
      obtain rfl := Host.Outcome.next.inj ends
      exact h.finish (h.toKept.exec (h.start p) run) s
    case h_2 => simp at ends
    case h_3 => simp at ends
  case isFalse => simp at ends

theorem abandon (p : P s) : P s.abandon :=
  h.own (h.release p false { s.armed with pending := false, seg := none, rep := none }) s.regs s.segs s.ip s.flags
    s.halted .none s.trap s.draws

theorem service (p : P s) (d : Due) : P (s.service d) := by
  cases d with
  | nmi => exact h.toKept.interrupt (h.abandon p) _ _ _
  | intr => exact h.toKept.interrupt (h.toKept.acknowledge (h.abandon p)) _ _ _
  | trap => exact h.toKept.interrupt (h.abandon p) _ _ _

theorem accept (p : P s) (d : Due) : P (s.accept d) :=
  h.free (h.own p s.regs s.segs s.ip s.flags false s.shadow s.trap s.draws) (s.nmiLatch && decide (d ≠ .nmi))
    s.unstarted s.midway s.flight.again

theorem perform {task : Task} (p : P s) (ends : s.perform .layerG task = .next t) : P t := by
  cases task with
  | instr i => exact h.runInstr p ends
  | service d =>
    obtain rfl := Host.Outcome.next.inj ends
    exact h.service p d

theorem carry {task : Task} {past : List Lanes} (p : P s) (ends : s.carry .layerG task past = .next t) : P t := by
  unfold State.carry at ends
  split at ends
  case h_1 u run =>
    have reached : P u := h.perform (h.free p s.nmiLatch s.unstarted none past) run
    split at ends
    case h_1 w _ =>
      obtain rfl := Host.Outcome.next.inj ends
      exact h.free (h.hold p reached w) (s.hold u w).nmiLatch (s.hold u w).unstarted _ (s.hold u w).flight.again
    case h_2 =>
      obtain rfl := Host.Outcome.next.inj ends
      exact reached
  case h_2 => simp at ends
  case h_3 => simp at ends

/-- A turn keeps the property, if the taking of an instruction does; `Q` is what holds where that taking stalls. -/
theorem turn {Q : State → Prop} (weaken : ∀ {u : State}, P u → Q u)
    (taken : s.halted = false → s.inProgress = none → ∀ i u, s.fetch .layerG = .instr i u → P u)
    (waits : s.halted = false → s.inProgress = none → ∀ u, s.fetch .layerG = .waits u → Q u)
    (p : P s) (ends : s.turn .layerG = .next t) : Q t := by
  unfold State.turn at ends
  split at ends
  case h_1 m _ => exact weaken (h.carry (h.withRegisters p m.origin) ends)
  case h_2 =>
    split at ends
    case h_1 d _ => exact weaken (h.carry (h.accept p d) ends)
    case h_2 =>
      split at ends
      case isTrue =>
        obtain rfl := Host.Outcome.next.inj ends
        exact weaken p
      case isFalse running =>
        have running := Bool.eq_false_iff.mpr running
        split at ends
        case h_1 => exact weaken (h.carry p ends)
        case h_2 idle =>
          split at ends
          case h_1 i u fetched => exact weaken (h.carry (taken running idle i u fetched) ends)
          case h_2 u fetched =>
            obtain rfl := Host.Outcome.next.inj ends
            exact waits running idle _ fetched
          case h_3 => simp at ends

end KeptByTurn

/-- No turn faults of itself. -/
theorem State.turn_ne_fault (s : State) (f : Fault) : s.turn .layerG ≠ .fault f := by
  have runs : ∀ (u : State) (i : Instr), u.runInstr .layerG i ≠ .fault f := by
    intro u i ends
    unfold State.runInstr at ends
    split at ends
    case isTrue =>
      split at ends
      case h_1 => simp at ends
      case h_2 g run => exact exec_ne_fault _ _ _ run
      case h_3 => simp at ends
    case isFalse => simp at ends
  have carries : ∀ (u : State) (task : Task) (past : List Lanes), u.carry .layerG task past ≠ .fault f := by
    intro u task past ends
    unfold State.carry at ends
    split at ends
    case h_1 => split at ends <;> simp at ends
    case h_2 g run =>
      cases task with
      | instr i =>
        obtain rfl := Host.Outcome.fault.inj ends
        exact runs _ _ run
      | service d => simp [State.perform] at run
    case h_3 => simp at ends
  intro ends
  unfold State.turn at ends
  split at ends
  case h_1 => exact carries _ _ _ ends
  case h_2 =>
    split at ends
    case h_1 => exact carries _ _ _ ends
    case h_2 =>
      split at ends
      case isTrue => simp at ends
      case isFalse =>
        split at ends
        case h_1 => exact carries _ _ _ ends
        case h_2 =>
          split at ends
          case h_1 => exact carries _ _ _ ends
          case h_2 => simp at ends
          case h_3 => simp at ends

end Sys2Proof.Machine

/-! ## A turn in which nothing else happens -/

namespace Sys2Proof.Machine

/-- Nothing happens beside the CPU, whose bus is as it was: a task stalls only where the CPU can run no cycle, and
there memory and devices are untouched and no cycle has ended. -/
structure Undisturbed (o : Owner) (b : Bool) (m : List Host.Cell) (d : List Device) (s : State) : Prop where
  owner : s.owner = o
  hung : s.hung = b
  gaps : s.flight.gaps = []
  cut : s.flight.cut = none
  stalls : s.flight.stalled.isSome = true → s.barred = true
  still : s.barred = true → s.mem = m ∧ s.devices = d ∧ s.log.cycles = []

variable {o : Owner} {b : Bool} {m : List Host.Cell} {d : List Device} {s t : State}

theorem State.hang_eq (s : State) (c : BusCycle) : ∃ x, s.hang c = { s with stuck := x } := by
  unfold State.hang
  split
  · exact ⟨_, rfl⟩
  · exact ⟨s.stuck, rfl⟩

/-- A CPU that can run cycles runs this one, alone. -/
theorem State.cycle_of_free (hb : s.barred = false) (ha : s.flight.again = []) (hg : s.flight.gaps = [])
    (hs : s.flight.stalled = none) (hc : s.flight.cut = none) (pt : Point) (k : BusKind) (a : Option Addr)
    (g : Option SegReg) (f : State → Lanes × State) :
    s.cycle pt k a g f = ((f s).1, (f s).2.record (s.busCycle k a g (f s).1)) := by
  unfold State.cycle
  rw [ha]
  simp [s.pass_of_no_gaps pt hg, hs, hc, hb, State.runCycle]

theorem Undisturbed.cycle (h : Undisturbed o b m d s) {f : State → Lanes × State} (hf : Moves f) (pt : Point)
    (k : BusKind) (a : Option Addr) (g : Option SegReg) : Undisturbed o b m d (s.cycle pt k a g f).2 := by
  cases again : s.flight.again with
  | cons l rest =>
    rw [s.cycle_again pt k a g f l rest again]
    exact ⟨h.owner, h.hung, h.gaps, h.cut, h.stalls, h.still⟩
  | nil =>
    cases stalled : s.flight.stalled with
    | some w =>
      rw [s.cycle_of_stalled pt k a g f (by rw [stalled]; rfl) again]
      exact h
    | none =>
      cases barred : s.barred with
      | true =>
        rw [s.cycle_of_barred pt k a g f barred again h.gaps stalled h.cut]
        obtain ⟨x, hang⟩ := s.hang_eq (s.busCycle k a g (f s).1)
        rw [hang]
        exact ⟨h.owner, h.hung, h.gaps, h.cut, fun _ => barred, h.still⟩
      | false =>
        rw [State.cycle_of_free barred again h.gaps stalled h.cut]
        obtain ⟨l, m', d', n, acts⟩ := hf.beside s
        rw [show f s = _ from acts s.flight]
        exact ⟨h.owner, h.hung, h.gaps, h.cut, fun some => absurd some (by simp [State.record, stalled]),
          fun free => absurd (barred.symm.trans free) Bool.false_ne_true⟩

theorem Undisturbed.flush (h : Undisturbed o b m d s) : Undisturbed o b m d s.flushQueue := by
  unfold State.flushQueue
  rw [s.pass_of_no_gaps .between h.gaps]
  dsimp only
  split
  · exact h
  · exact ⟨h.owner, h.hung, h.gaps, h.cut, h.stalls, h.still⟩

theorem keptByTurn_undisturbed : KeptByTurn (Undisturbed o b m d) where
  own := fun h _ _ _ _ _ _ _ _ => ⟨h.owner, h.hung, h.gaps, h.cut, h.stalls, h.still⟩
  arm := fun h _ _ => ⟨h.owner, h.hung, h.gaps, h.cut, h.stalls, h.still⟩
  lock := fun h => ⟨h.owner, h.hung, h.gaps, h.cut, h.stalls, h.still⟩
  goOn := fun h _ _ => ⟨h.owner, h.hung, h.gaps, h.cut, h.stalls, h.still⟩
  cycle := fun h _ hf pt k a g => h.cycle hf pt k a g
  flush := Undisturbed.flush
  free := fun h _ _ _ _ => ⟨h.owner, h.hung, h.gaps, h.cut, h.stalls, h.still⟩
  release := fun h _ _ => ⟨h.owner, h.hung, h.gaps, h.cut, h.stalls, h.still⟩
  hold := fun _ h _ => ⟨h.owner, h.hung, h.gaps, h.cut, h.stalls, h.still⟩

/-! ### The taking of an instruction -/

theorem Lanes.bytes_byte (a : Addr) (v : Byte) : (Lanes.byte a v).bytes = [v] := by
  unfold Lanes.byte
  split <;> rfl

/-- A fetch cycle that runs brings a byte at least. -/
theorem State.fetchMove_bytes (s : State) (a : Addr) : (State.fetchMove a s).1.bytes ≠ [] := by
  unfold State.fetchMove
  split
  · simp [Lanes.bytes_byte]
  · simp [Lanes.word, Lanes.bytes]

theorem moves_fetchMove (a : Addr) : Moves (State.fetchMove a) := by
  unfold State.fetchMove
  split
  · exact (moves_readByte a).map (Lanes.byte a)
  · exact (moves_inputWord .memory a (a + 1)).map Lanes.word

/-- The fetch of a byte the CPU waits for, from an empty queue, stalls only a CPU that can run no cycle. -/
theorem Undisturbed.demand (h : Undisturbed o b m d s) (running : s.halted = false) (empty : s.queue = []) :
    Undisturbed o b m d s.demand := by
  unfold State.demand
  rw [s.pass_of_no_gaps .between h.gaps]
  dsimp only
  rw [h.cut, empty]
  dsimp only
  have cycle : s.biuFetch =
      { (s.runCycle .fetch (some (s.addr .cs (s.ip + BitVec.ofNat 16 0))) (some .cs)
          (State.fetchMove (s.addr .cs (s.ip + BitVec.ofNat 16 0)))).2 with
        queue := (s.runCycle .fetch (some (s.addr .cs (s.ip + BitVec.ofNat 16 0))) (some .cs)
          (State.fetchMove (s.addr .cs (s.ip + BitVec.ofNat 16 0)))).2.queue ++
            (s.runCycle .fetch (some (s.addr .cs (s.ip + BitVec.ofNat 16 0))) (some .cs)
          (State.fetchMove (s.addr .cs (s.ip + BitVec.ofNat 16 0)))).1.bytes } := by
    unfold State.biuFetch
    rw [running, empty]
    rfl
  generalize s.addr .cs (s.ip + BitVec.ofNat 16 0) = a at cycle
  cases barred : s.barred with
  | true =>
    obtain ⟨x, hang⟩ := s.hang_eq (s.busCycle .fetch (some a) (some .cs) (State.fetchMove a s).1)
    have run : s.runCycle .fetch (some a) (some .cs) (State.fetchMove a) = (.none, { s with stuck := x }) := by
      unfold State.runCycle
      rw [barred, ← hang]
      rfl
    rw [cycle, run]
    have still : Undisturbed o b m d ({ s with stuck := x, queue := s.queue ++ Lanes.none.bytes }.stall .between) :=
      ⟨h.owner, h.hung, h.gaps, h.cut, fun _ => barred, h.still⟩
    rw [empty] at still ⊢
    exact still
  | false =>
    have run : s.runCycle .fetch (some a) (some .cs) (State.fetchMove a) = ((State.fetchMove a s).1,
        (State.fetchMove a s).2.record (s.busCycle .fetch (some a) (some .cs) (State.fetchMove a s).1)) := by
      unfold State.runCycle
      rw [barred]
      rfl
    obtain ⟨l, m', d', n, acts⟩ := (moves_fetchMove a).beside s
    have acts : State.fetchMove a s = _ := acts s.flight
    have some_byte : (s.queue ++ l.bytes).isEmpty = false := by
      have bytes := s.fetchMove_bytes a
      rw [acts] at bytes
      simp [bytes]
    rw [cycle, run, acts]
    simp only [List.isEmpty_nil, if_true, State.record, some_byte]
    exact ⟨h.owner, h.hung, h.gaps, h.cut, h.stalls,
      fun free => absurd (barred.symm.trans free) Bool.false_ne_true⟩

theorem Undisturbed.takeByte (h : Undisturbed o b m d s) (running : s.halted = false) (first : Bool) :
    Undisturbed o b m d (s.takeByte first).2 ∧ (s.takeByte first).2.halted = false := by
  have filled : Undisturbed o b m d (if s.queue.isEmpty then s.demand else s) ∧
      (if s.queue.isEmpty then s.demand else s).halted = false := by
    split
    case isTrue empty =>
      exact ⟨h.demand running (List.isEmpty_iff.mp empty), (keeps_demand s).halted.trans running⟩
    case isFalse => exact ⟨h, running⟩
  unfold State.takeByte
  dsimp only
  generalize (if s.queue.isEmpty then s.demand else s) = u at filled
  obtain ⟨k, running⟩ := filled
  split
  · exact ⟨k, running⟩
  · split
    · exact ⟨k, running⟩
    · exact ⟨⟨k.owner, k.hung, k.gaps, k.cut, k.stalls, k.still⟩, running⟩

/-- The state in which the taking of an instruction ends. -/
def Fetched.state : Fetched → Option State
  | .instr _ s => some s
  | .waits s => some s
  | .undecodable => none

theorem Undisturbed.takeInstr (ip : Word) (fuel : Nat) (seen : List Byte) (h : Undisturbed o b m d s)
    (running : s.halted = false) {t : State} (ends : (s.takeInstr .layerG ip fuel seen).state = some t) :
    Undisturbed o b m d t := by
  induction fuel generalizing seen s with
  | zero => simp [State.takeInstr, Fetched.state] at ends
  | succ fuel ih =>
    obtain ⟨k, running⟩ := h.takeByte running seen.isEmpty
    unfold State.takeInstr at ends
    split at ends
    case h_1 u taken =>
      rw [taken] at k
      obtain rfl := Option.some.inj ends
      exact ⟨k.owner, k.hung, k.gaps, k.cut, k.stalls, k.still⟩
    case h_2 v u taken =>
      rw [taken] at k running
      split at ends
      case h_1 =>
        obtain rfl := Option.some.inj ends
        exact k
      case h_2 => exact ih _ k running ends

theorem Undisturbed.turn (h : Undisturbed o b m d s) (ends : s.turn .layerG = .next t) : Undisturbed o b m d t := by
  have fetched : s.halted = false → ∀ u, (s.fetch .layerG).state = some u → Undisturbed o b m d u :=
    fun running u ends => Undisturbed.takeInstr s.ip 6 [] (s := s.markStart)
      ⟨h.owner, h.hung, h.gaps, h.cut, h.stalls, h.still⟩ running ends
  exact keptByTurn_undisturbed.turn id (fun running _ i u e => fetched running u (by rw [e]; rfl))
    (fun running _ u e => fetched running u (by rw [e]; rfl)) h ends

theorem undisturbed_beginTurn (s : State) : Undisturbed s.owner s.hung s.mem s.devices (s.beginTurn []) :=
  ⟨rfl, rfl, rfl, rfl, fun stalled => by simp [State.beginTurn, Flight.idle] at stalled, fun _ => ⟨rfl, rfl, rfl⟩⟩

end Sys2Proof.Machine

namespace Sys2Proof

open Machine

/-- Settles O13: the CPU alone faults only where its turn has stalled, and that turn stalls only where no cycle can
run. -/
theorem faultsOnlyStuck : Obligations.FaultsOnlyStuck := by
  intro s f fault
  unfold step State.move at fault
  split at fault
  case h_1 done =>
    refine ⟨done, ?_⟩
    unfold State.alone at fault
    split at fault
    case h_1 t ran =>
      have calm := (undisturbed_beginTurn s).turn ran
      split at fault
      case isTrue stalled =>
        have barred := (State.barred_iff t).mp (calm.stalls stalled)
        rw [calm.hung, calm.owner] at barred
        rw [calm.owner] at fault
        obtain rfl := Host.Outcome.fault.inj fault
        by_cases own : s.owner = .cpu
        · exact .inl ⟨if_pos own, barred.resolve_right (not_not.mpr own), own⟩
        · exact .inr ⟨if_neg own, own⟩
      case isFalse => simp at fault
    case h_2 g ran => exact absurd ran (State.turn_ne_fault _ g)
    case h_3 => simp at fault
  case h_2 gaps rest _ =>
    unfold State.play at fault
    split at fault
    case h_1 => simp at fault
    case h_2 g ran => exact absurd ran (State.turn_ne_fault _ g)
    case h_3 => simp at fault
  case h_3 => simp at fault

/-- Where the CPU can run no cycle, what its turn leaves is untouched. -/
theorem endTurn_of_barred {s t : State} (barred : s.barred = true)
    (calm : Undisturbed s.owner s.hung s.mem s.devices t) :
    t.endTurn.mem = s.mem ∧ t.endTurn.devices = s.devices ∧ t.endTurn.log.cycles = [] ∧ t.endTurn.owner = s.owner ∧
      t.endTurn.hung = s.hung := by
  obtain ⟨mem, devices, cycles⟩ := calm.still (by rwa [State.barred, calm.hung, calm.owner])
  unfold State.endTurn
  rw [calm.cut]
  exact ⟨mem, devices, cycles, calm.owner, calm.hung⟩

/-- Settles O14. -/
theorem barredTurnTouchesNothing : Obligations.BarredTurnTouchesNothing := by
  intro s u barred moves ends
  unfold step State.move at ends
  obtain done | ⟨rest, next⟩ := moves
  · rw [done] at ends
    dsimp only at ends
    unfold State.alone at ends
    split at ends
    case h_1 t ran =>
      split at ends
      case isTrue => simp at ends
      case isFalse =>
        obtain rfl := Host.Outcome.next.inj ends
        exact endTurn_of_barred barred ((undisturbed_beginTurn s).turn ran)
    case h_2 => simp at ends
    case h_3 => simp at ends
  · rw [next] at ends
    dsimp only at ends
    unfold State.play at ends
    split at ends
    case h_1 t ran =>
      obtain rfl := Host.Outcome.next.inj ends
      exact endTurn_of_barred barred ((undisturbed_beginTurn { s with script := rest }).turn ran)
    case h_2 => simp at ends
    case h_3 => simp at ends

end Sys2Proof

/-! ## The invariant -/

namespace Sys2Proof.Machine

variable {s t : State}

/-! ### What stands beside the instruction changes at RESET only -/

theorem Moves.flight {α : Type} {f : State → α × State} (h : Moves f) (s : State) : (f s).2.flight = s.flight := by
  obtain ⟨l, m, d, n, acts⟩ := h.beside s
  rw [show f s = _ from acts s.flight]

theorem MasterOp.run_flight (s : State) (op : MasterOp) : (MasterOp.run s op).flight = s.flight := by
  cases op with
  | memRead a => exact (moves_readByte a).flight s
  | memWrite a v => exact (moves_writeByte a v).flight s
  | ioRead p => exact (moves_readPort _).flight s
  | ioWrite p v => rfl
  | memReadWord r => exact (moves_inputWord .memory _ _).flight s
  | memWriteWord r v => exact (moves_outputWord .memory _ _ v).flight s
  | ioReadWord r => exact (moves_inputWord .io _ _).flight s
  | ioWriteWord r v => exact (moves_outputWord .io _ _ v).flight s

theorem State.grant_flight (s : State) : s.grant.flight = s.flight := by
  unfold State.grant State.pulse
  repeat' split
  all_goals rfl

theorem State.biuFetch_flight (s : State) : s.biuFetch.flight = s.flight := by
  unfold State.biuFetch State.runCycle
  split
  · rfl
  · dsimp only
    split
    · unfold State.hang
      split <;> rfl
    · exact (moves_fetchMove _).flight s

theorem State.occur_flight (s : State) (e : Event) (h : ∀ low high, e ≠ .reset low high) :
    (s.occur e).flight = s.flight := by
  cases e with
  | nmi _ | intr _ _ | test _ | wait _ | neverReady | resetDrv => rfl
  | hold level => simp only [State.occur, State.setHold]; split <;> rfl
  | request ch => simp only [State.occur, State.request]; split <;> [split <;> rfl; rfl]
  | grant => exact s.grant_flight
  | release ch => simp only [State.occur, State.release]; split <;> split <;> rfl
  | master op =>
    simp only [State.occur, State.masterCycle]
    split
    · rfl
    · exact MasterOp.run_flight s op
  | fetch => exact s.biuFetch_flight
  | reset low high => exact absurd rfl (h low high)

theorem State.occur_stalled (s : State) (e : Event) : (s.occur e).flight.stalled = s.flight.stalled := by
  by_cases reset : ∃ low high, e = .reset low high
  · obtain ⟨low, high, rfl⟩ := reset
    rfl
  · rw [s.occur_flight e fun low high same => reset ⟨low, high, same⟩]

theorem State.occurAll_stalled (pt : Point) (es : List Event) (s : State) :
    (State.occurAll pt es s).flight.stalled = s.flight.stalled := by
  induction es generalizing s with
  | nil => rfl
  | cons e es ih =>
    rw [State.occurAll, ih, State.occurAt]
    split
    · exact s.occur_stalled e
    · rfl

theorem State.pass_stalled (s : State) (pt : Point) : (s.pass pt).flight.stalled = s.flight.stalled := by
  unfold State.pass
  split
  · rfl
  · split
    · rfl
    · exact State.occurAll_stalled pt _ _

theorem State.cutCycle_flight (s : State) (low high : Bool) (c : Option BusCycle) :
    (s.cutCycle low high c).flight = s.flight := by
  have put : ∀ (t : State) (sp : Space) (a : Addr) (v : Option Byte) (lands : Bool),
      (match v with | some b => if lands then t.output sp a b else t | none => t).flight = t.flight := by
    intro t sp a v lands
    split
    · split
      · exact (moves_output sp a _).flight t
      · rfl
    · rfl
  have land : ∀ c, (s.landHalves c low high).flight = s.flight := by
    intro c
    unfold State.landHalves
    split
    · exact (put _ _ _ _ _).trans (put _ _ _ _ _)
    · rfl
  unfold State.cutCycle
  split
  · exact land _
  · split
    · split
      · exact land _
      · rfl
    · rfl

/-! ### The invariant in a turn -/

theorem kept_of_keeps_cycle {P : State → Prop} (keeps : ∀ {s t : State}, Keeps s t → P s → P t) {s : State} (p : P s)
    {f : State → Lanes × State} (hf : Moves f) (pt : Point) (k : BusKind) (a : Option Addr) (g : Option SegReg) :
    P (s.cycle pt k a g f).2 := keeps (keeps_cycle s pt k a g f hf.keeps) p

theorem keptByTurn_worldFits : KeptByTurn State.worldFits where
  own := fun w _ _ _ _ _ _ _ _ => w
  arm := fun w _ _ => w
  lock := fun w => w
  goOn := fun w _ _ => w
  cycle := fun w _ hf => kept_of_keeps_cycle (fun k => k.world) w hf
  flush := (keeps_flushQueue _).world
  free := fun w _ _ _ _ => w
  release := fun w _ _ => w
  hold := fun _ w _ => w

theorem Keeps.progress (k : Keeps s t) (p : s.progressFits) : t.progressFits := by
  unfold State.progressFits at *
  rw [k.inProgress, k.armed]
  exact p

theorem keptByTurn_progressFits : KeptByTurn State.progressFits where
  own := fun p _ _ _ _ _ _ _ _ => p
  arm := fun p _ keeps i same => (p i same).imp id fun ⟨takes, rep⟩ => ⟨takes, keeps rep⟩
  lock := fun p => p
  goOn := fun _ _ fits i same => by obtain rfl := Option.some.inj same; exact fits
  cycle := fun p _ hf => kept_of_keeps_cycle Keeps.progress p hf
  flush := (keeps_flushQueue _).progress
  free := fun p _ _ _ _ => p
  release := fun _ _ _ _ same => by simp at same
  hold := fun p _ _ => p

theorem progressFits_of_idle (h : s.inProgress = none) : s.progressFits := fun i same => by simp [h] at same

/-! ### The taking of an instruction -/

theorem State.takeByte_inProgress (s : State) (first : Bool) : (s.takeByte first).2.inProgress = s.inProgress := by
  unfold State.takeByte
  dsimp only
  have filled : (if s.queue.isEmpty then s.demand else s).inProgress = s.inProgress := by
    split
    · exact (keeps_demand s).inProgress
    · rfl
  generalize (if s.queue.isEmpty then s.demand else s) = u at filled
  split
  · exact filled
  · split <;> exact filled

theorem State.takeInstr_inProgress (ip : Word) (fuel : Nat) (seen : List Byte)
    (ends : (s.takeInstr .layerG ip fuel seen).state = some t) : t.inProgress = s.inProgress := by
  induction fuel generalizing seen s with
  | zero => simp [State.takeInstr, Fetched.state] at ends
  | succ fuel ih =>
    have same := s.takeByte_inProgress seen.isEmpty
    unfold State.takeInstr at ends
    split at ends
    case h_1 u taken =>
      rw [taken] at same
      obtain rfl := Option.some.inj ends
      exact same
    case h_2 v u taken =>
      rw [taken] at same
      split at ends
      case h_1 =>
        obtain rfl := Option.some.inj ends
        exact same
      case h_2 => exact (ih _ ends).trans same

/-- What holds outside the registers where a turn has ended: RESET leaves no queue, so only memory counts there. -/
def State.worldFitsUncut (s : State) : Prop := Memory.wf s.mem = true ∧ (s.flight.cut = none → s.worldFits)

/-- The wait for a byte ends with nothing stalled, or at RESET, or with an empty queue. -/
theorem State.demand_fits (w : s.worldFits) (going : s.flight.stalled = none) :
    s.demand.worldFits ∧ (s.demand.flight.stalled = none ∨ s.demand.flight.cut ≠ none ∨ s.demand.queue = []) := by
  refine ⟨(keeps_demand s).world w, ?_⟩
  have passed : (s.pass .between).flight.stalled = none := (s.pass_stalled .between).trans going
  unfold State.demand
  dsimp only
  generalize s.pass .between = t at passed
  split
  case h_1 h cut =>
    refine .inr (.inl ?_)
    rw [State.stall]
    dsimp only
    have same : (t.cutCycle h.1 h.2 none).flight = t.flight := t.cutCycle_flight _ _ _
    rw [same, cut]
    simp
  case h_2 =>
    have fetched : (if t.queue.isEmpty then t.biuFetch else t).flight.stalled = none := by
      split
      · rw [t.biuFetch_flight, passed]
      · exact passed
    generalize (if t.queue.isEmpty then t.biuFetch else t) = u at fetched
    split
    case isTrue empty => exact .inr (.inr (List.isEmpty_iff.mp empty))
    case isFalse => exact .inl fetched

/-- A byte is taken from a machine that fits and goes on; or none is, at RESET or from an empty queue. -/
theorem State.takeByte_fits (w : s.worldFits) (going : s.flight.stalled = none) (first : Bool) :
    (s.takeByte first).2.worldFits ∧
      match (s.takeByte first).1 with
      | some _ => (s.takeByte first).2.flight.stalled = none
      | none => (s.takeByte first).2.flight.cut ≠ none ∨ (s.takeByte first).2.queue = [] := by
  have filled : (if s.queue.isEmpty then s.demand else s).worldFits ∧
      ((if s.queue.isEmpty then s.demand else s).flight.stalled = none ∨
        (if s.queue.isEmpty then s.demand else s).flight.cut ≠ none ∨
        (if s.queue.isEmpty then s.demand else s).queue = []) := by
    split
    · exact State.demand_fits w going
    · exact ⟨w, .inl going⟩
  unfold State.takeByte
  dsimp only
  generalize (if s.queue.isEmpty then s.demand else s) = u at filled
  obtain ⟨fits, ends⟩ := filled
  split
  case isTrue stalled => exact ⟨fits, ends.resolve_left (by simpa using Option.isSome_iff_ne_none.mp stalled)⟩
  case isFalse goes =>
    have going : u.flight.stalled = none := by simpa using goes
    split
    case h_1 empty => exact ⟨fits, .inr empty⟩
    case h_2 b rest queued =>
      obtain ⟨mem, six, bus⟩ := fits
      exact ⟨⟨mem, by rw [queued] at six; exact Nat.le_of_succ_le six, bus⟩, going⟩

theorem State.takeInstr_fits (ip : Word) (fuel : Nat) (seen : List Byte) (room : seen.length + fuel ≤ 6)
    (w : s.worldFits) (going : s.flight.stalled = none) :
    match s.takeInstr .layerG ip fuel seen with
    | .instr _ t => t.worldFits
    | .waits t => t.worldFitsUncut
    | .undecodable => True := by
  induction fuel generalizing seen s with
  | zero => trivial
  | succ fuel ih =>
    obtain ⟨fits, ends⟩ := State.takeByte_fits w going seen.isEmpty
    unfold State.takeInstr
    generalize s.takeByte seen.isEmpty = r at fits ends
    match r, fits, ends with
    | (none, t), fits, ends =>
      refine ⟨fits.1, fun uncut => ⟨fits.1, ?_, fits.2.2⟩⟩
      have empty : t.queue = [] := ends.resolve_left fun cut => cut uncut
      simp only [State.untake, empty, List.append_nil]
      omega
    | (some b, t), fits, ends =>
      dsimp only
      split
      case h_1 i u t' same =>
        split at same
        case h_1 d _ =>
          obtain ⟨rfl, rfl⟩ := Fetched.instr.inj same
          exact fits
        case h_2 =>
          have rest := ih (seen ++ [b]) (by simp; omega) fits ends
          rw [same] at rest
          exact rest
      case h_2 u t' same =>
        split at same
        case h_1 => simp at same
        case h_2 =>
          have rest := ih (seen ++ [b]) (by simp; omega) fits ends
          rw [same] at rest
          exact rest
      case h_3 => trivial

/-- The invariant of a turn, from its beginning to its end. -/
theorem State.turn_fits {gaps : List (List Event)} (w : s.worldFits) (p : s.progressFits)
    (ends : s.cpuTurn .layerG gaps = .next t) : t.worldFitsUncut ∧ t.progressFits := by
  have fetched : match (s.beginTurn gaps).fetch .layerG with
      | .instr _ t => t.worldFits
      | .waits t => t.worldFitsUncut
      | .undecodable => True :=
    State.takeInstr_fits (s := (s.beginTurn gaps).markStart) s.ip 6 [] (le_refl _) w rfl
  have idle : ∀ u, ((s.beginTurn gaps).fetch .layerG).state = some u → u.inProgress = s.inProgress := fun u =>
    State.takeInstr_inProgress (s := (s.beginTurn gaps).markStart) (t := u) s.ip 6 []
  constructor
  · refine keptByTurn_worldFits.turn (s := s.beginTurn gaps) (Q := State.worldFitsUncut) (fun w => ⟨w.1, fun _ => w⟩)
      (fun _ _ i u e => ?_) (fun _ _ u e => ?_) w ends
    · rw [e] at fetched
      exact fetched
    · rw [e] at fetched
      exact fetched
  · refine keptByTurn_progressFits.turn (s := s.beginTurn gaps) id (fun _ none i u e => ?_)
      (fun _ none u e => ?_) p ends
    · exact progressFits_of_idle ((idle u (by rw [e]; rfl)).trans none)
    · exact progressFits_of_idle ((idle u (by rw [e]; rfl)).trans none)

/-! ### The end of a turn, and the events between two turns -/

theorem State.doReset_inv (wf : Memory.wf s.mem = true) : s.doReset.Inv := by
  refine ⟨⟨wf, Nat.zero_le _, ⟨?_, ?_, ?_, fun _ => ⟨rfl, rfl⟩⟩, fun some => absurd rfl some⟩,
    progressFits_of_idle rfl, rfl⟩ <;> simp [State.doReset, State.reset]

theorem State.endTurn_inv (w : s.worldFitsUncut) (p : s.progressFits) : s.endTurn.Inv := by
  unfold State.endTurn
  split
  case isTrue => exact State.doReset_inv w.1
  case isFalse uncut => exact ⟨w.2 (by simpa using uncut), p, rfl⟩

theorem State.happen_inv (h : s.Inv) (e : Event) : (s.happen e).Inv := by
  obtain ⟨w, p, idle⟩ := h
  have others : (∀ low high, e ≠ .reset low high) → (if s.point.admits s.params e then s.occur e else s).Inv := by
    intro other
    split
    · have k := keeps_occur s e
      exact ⟨k.world w, k.progress p, (s.occur_flight e other).trans idle⟩
    · exact ⟨w, p, idle⟩
  cases e with
  | reset low high => exact State.doReset_inv ((keeps_cutCycle s low high none).world w).1
  | _ => exact others (by simp)

end Sys2Proof.Machine

namespace Sys2Proof

open Machine

/-- Settles O9: each move keeps the invariant, RESET in the middle of a turn making it anew. -/
theorem stepKeepsInvariant : Obligations.StepKeepsInvariant := by
  rintro s t ⟨w, p, idle⟩ ends
  unfold step State.move at ends
  split at ends
  case h_1 =>
    unfold State.alone at ends
    split at ends
    case h_1 u ran =>
      split at ends
      case isTrue => simp at ends
      case isFalse =>
        obtain rfl := Host.Outcome.next.inj ends
        obtain ⟨world, progress⟩ := State.turn_fits w p ran
        exact State.endTurn_inv world progress
    case h_2 => simp at ends
    case h_3 => simp at ends
  case h_2 gaps rest _ =>
    unfold State.play at ends
    split at ends
    case h_1 u ran =>
      obtain rfl := Host.Outcome.next.inj ends
      obtain ⟨world, progress⟩ := State.turn_fits (s := { s with script := rest }) w p ran
      exact State.endTurn_inv world progress
    case h_2 => simp at ends
    case h_3 => simp at ends
  case h_3 e rest _ =>
    obtain rfl := Host.Outcome.next.inj ends
    exact State.happen_inv (s := { s with script := rest, log := .empty }) ⟨w, p, idle⟩ e

end Sys2Proof

/-! ## Completion, processor control and events

The statements that follow from the definition of one instruction or of one event. -/

namespace Sys2Proof

open Machine Claims

/-! ### Which instructions complete -/

/-- A string instruction completes, whatever one element of it does. -/
theorem State.repeated_completes (s : State) (i : Instr) (compares : Bool) (f : State → State) :
    ∃ t, s.repeated i compares f = .next t := by
  unfold State.repeated
  split
  case h_1 => exact ⟨_, rfl⟩
  case h_2 =>
    split
    case isTrue => exact ⟨_, rfl⟩
    case isFalse => dsimp only; split <;> exact ⟨_, rfl⟩

theorem next_of_ite (c : Prop) [Decidable c] (s t : State) :
    ∃ u, (if c then .next s else .next t : Result) = .next u := by
  split <;> exact ⟨_, rfl⟩

/-- An instruction of an encoding in use completes, word `IN` and `OUT` at port FFFFH apart. -/
theorem exec_completes (i : Instr) (s : State) (used : ∀ op next, i ≠ .notUsed op next)
    (port : ¬ ((i = .inAxDx ∨ i = .outDxAx) ∧ s.regs.dx = 0xFFFF)) : ∃ t, exec i s = .next t := by
  cases i with
  | notUsed op next => exact absurd rfl (used op next)
  | inAxDx => exact ⟨_, if_neg fun dx => port ⟨.inl rfl, dx⟩⟩
  | outDxAx => exact ⟨_, if_neg fun dx => port ⟨.inr rfl, dx⟩⟩
  | movsb | movsw | cmpsb | cmpsw | stosb | stosw | lodsb | lodsw | scasb | scasw =>
    exact State.repeated_completes s _ _ _
  | divRm8 | divRm16 | idivRm8 | idivRm16 | into | wait => exact next_of_ite _ _ _
  | esc x e => cases e <;> exact ⟨_, rfl⟩
  | _ => exact ⟨_, rfl⟩

/-- Settles O11. -/
theorem execCompletes : Obligations.ExecCompletes := by
  intro i s
  constructor
  · rintro ⟨t, ends⟩
    refine ⟨?_, ?_⟩
    · rintro op next rfl
      simp [exec, execNotUsed] at ends
    · rintro ⟨rfl | rfl, dx⟩
      · rw [show exec .inAxDx s = .refused .portWrap from if_pos dx] at ends
        simp at ends
      · rw [show exec .outDxAx s = .refused .portWrap from if_pos dx] at ends
        simp at ends
  · rintro ⟨used, port⟩
    exact exec_completes i s used port

/-- Settles O12. -/
theorem refusals : Obligations.Refusals :=
  ⟨fun _ _ _ => rfl, fun _ dx => ⟨if_pos dx, if_pos dx⟩⟩

/-- Settles O47: every string instruction starts with the test of CX. -/
theorem repeatZeroTimes : Obligations.RepeatZeroTimes := by
  intro s armed cx i string
  obtain ⟨z, rep⟩ := Option.ne_none_iff_exists'.mp armed
  have nothing : ∀ j compares f, s.repeated j compares f = .next s := by
    intro j compares f
    unfold State.repeated
    rw [rep]
    exact if_pos cx
  simp only [List.mem_cons, List.not_mem_nil, or_false] at string
  rcases string with rfl | rfl | rfl | rfl | rfl | rfl | rfl | rfl | rfl | rfl <;> exact nothing _ _ _

/-- Settles O59. -/
theorem interruptFlagAndPrefixes : Obligations.InterruptFlagAndPrefixes := by
  refine fun s => ⟨rfl, rfl, rfl, fun g i listed => ?_, rfl, rfl, rfl⟩
  simp only [List.mem_cons, List.not_mem_nil, or_false, Prod.mk.injEq] at listed
  rcases listed with ⟨rfl, rfl⟩ | ⟨rfl, rfl⟩ | ⟨rfl, rfl⟩ | ⟨rfl, rfl⟩ <;> rfl

/-- Settles O1: the decoder run on each word. -/
theorem decodesSpecWords : Obligations.DecodesSpecWords :=
  ⟨rfl, rfl, rfl, rfl, rfl, rfl, rfl, rfl, rfl, rfl, rfl⟩

/-- Settles O8: RESET leaves an empty memory and the bus to the CPU. -/
theorem resetInvariant : Obligations.ResetInvariant :=
  ⟨⟨rfl, Nat.zero_le _, by simp [State.busFits, State.reset], fun hangs => absurd rfl hangs⟩,
    progressFits_of_idle rfl, rfl⟩

/-! ### Sign extension -/

/-- A number in two parts. -/
theorem toNat_append_eq {m n : Nat} (x : BitVec m) (y : BitVec n) : (x ++ y).toNat = x.toNat * 2 ^ n + y.toNat := by
  rw [BitVec.toNat_append, ← Nat.shiftLeft_add_eq_or_of_lt y.isLt, Nat.shiftLeft_eq]

/-- Settles O32. -/
theorem signExtensions : Obligations.SignExtensions := by
  intro s
  refine ⟨⟨(s.reg8 .al).signExtend 16, BitVec.toInt_signExtend_of_le (by omega), rfl⟩,
    ⟨if (s.reg16 .ax).msb then 0xFFFF else 0, ?_, rfl⟩⟩
  generalize s.reg16 .ax = v
  have bound := v.isLt
  rw [BitVec.toInt_eq_msb_cond v, BitVec.toInt_eq_msb_cond, BitVec.msb_append, toNat_append_eq]
  cases sign : v.msb with
  | false => simp
  | true =>
    have top : (0xFFFF#16).msb = true := by decide
    simp [top]
    omega

/-! ### Effective addresses -/

/-- The signed byte of a displacement, as an addend modulo 2^16. -/
theorem signExtend_emod (d : Byte) : ((d.signExtend 16).toNat : Int) % 2 ^ 16 = d.toInt % 2 ^ 16 := by
  have same : (d.signExtend 16).toInt = d.toInt := BitVec.toInt_signExtend_of_le (by omega)
  rw [← same, BitVec.toInt_eq_toNat_cond]
  split <;> omega

/-- Settles O19. -/
theorem effectiveAddress : Obligations.EffectiveAddress := by
  intro s d w
  have sum : ∀ b v, ((s.regs.base b + v).toNat : Int) = ((s.regs.base b).toNat + v.toNat) % 2 ^ 16 := by
    intro b v
    rw [BitVec.toNat_add]
    omega
  have signed := signExtend_emod d
  refine ⟨fun b => ?_, fun b => ?_, fun b => ?_, rfl, fun m => ?_⟩
  · rw [show s.ea (.based b .none) = s.regs.base b + 0#16 from rfl, sum]
    cases b <;> simp [Regs.base]
  · rw [show s.ea (.based b (.d8 d)) = s.regs.base b + d.signExtend 16 from rfl, sum]
    generalize d.signExtend 16 = v at signed
    cases b <;> simp only [Regs.base, BitVec.toNat_add] <;> omega
  · rw [show s.ea (.based b (.d16 w)) = s.regs.base b + w from rfl, sum]
    cases b <;> simp only [Regs.base, BitVec.toNat_add] <;> omega
  · unfold State.segOf State.overridden
    cases s.armed.seg <;> rfl

/-! ### Inhibition and the cession of the bus -/

/-- Where the script is over the CPU moves alone. -/
theorem step_of_script_nil {s : State} (h : s.script = []) : step s = s.alone .layerG := by
  unfold step State.move
  rw [h]

/-- A turn of the script. -/
theorem step_of_turn {s : State} {gaps : List (List Event)} {rest : List Move} (h : s.script = .cpu gaps :: rest) :
    step s = { s with script := rest }.play .layerG gaps := by
  unfold step State.move
  rw [h]

/-- An event of the script. -/
theorem step_of_event {s : State} {e : Event} {rest : List Move} (h : s.script = .env e :: rest) :
    step s = .next ({ s with script := rest, log := .empty }.happen e) := by
  unfold step State.move
  rw [h]

/-- Settles O56. -/
theorem inhibition : Obligations.Inhibition := by
  intro s
  refine ⟨fun held => ?_, fun held => ?_, fun latch trap intr => ?_, fun script midway halted due => ?_⟩
  · have deaf : s.deaf = true := by
      unfold State.deaf
      rcases held with h | h | h | ⟨h, h'⟩ <;> simp [*]
    simp [State.due, deaf]
  · have low : (s.pins.intr && s.flags.ifl && decide (s.shadow ≠ .intr)) = false := by
      rcases held with h | h | h <;> simp [h]
    unfold State.due
    rw [low]
    repeat' split
    all_goals simp_all
  · have low : (s.pins.intr && s.flags.ifl && decide (s.shadow ≠ .intr)) = false := by
      simpa [IntrDue, and_assoc] using intr
    unfold State.due
    rw [latch, low, trap]
    simp
  · have turn : State.cpuTurn .layerG s [] = .next (s.beginTurn []) := by
      unfold State.cpuTurn State.turn
      rw [show (s.beginTurn []).midway = none from midway, show (s.beginTurn []).due = none from due]
      exact if_pos halted
    rw [step_of_script_nil script, State.alone, turn]
    rfl

/-- Settles O57. -/
theorem busCession : Obligations.BusCession := by
  intro s
  have happens : ∀ e, e ≠ .grant → e ≠ .fetch → (∀ low high, e ≠ .reset low high) → s.happen e = s.occur e := by
    intro e grant fetch reset
    have admitted : s.point.admits s.params e = true := by simp [Point.admits, grant, fetch]
    cases e with
    | reset low high => exact absurd rfl (reset low high)
    | _ => simp [State.happen, admitted]
  have request : ∀ ch, s.happen (.request ch) = s.request ch := fun ch => happens _ (by simp) (by simp) (by simp)
  have hold : ∀ level, s.happen (.hold level) = s.setHold level := fun l => happens _ (by simp) (by simp) (by simp)
  have release : ∀ ch, s.happen (.release ch) = s.release ch := fun ch => happens _ (by simp) (by simp) (by simp)
  have nmi : s.happen (.nmi true) = s.setNmi true := happens _ (by simp) (by simp) (by simp)
  have grant : s.happen .grant = if s.point.cedes s.params then s.grant else s := by
    simp [State.happen, Point.admits, State.occur]
  have ceded : s.owner = .cpu ∧ s.stuck = none ∧ s.point.cedes s.params = true → s.lockActive = false →
      s.happen .grant = s.grant ∧ s.canCede = true := by
    rintro ⟨owner, stuck, cedes⟩ lock
    exact ⟨by rw [grant, cedes]; rfl, (s.canCede_iff).mpr ⟨owner, stuck, lock⟩⟩
  refine ⟨?_, ?_, ?_, ?_, ?_, ?_, ?_, ?_, ?_, ?_, ?_, ?_, ?_, ?_, ?_, ?_⟩
  · intro max idle
    rw [request, State.request, if_pos max, if_neg Bool.false_ne_true, if_pos idle]
  · intro max idle
    rw [request, State.request, if_pos max, if_pos rfl, if_pos idle]
  · intro min ch
    rw [request, State.request, if_neg (by simp [min])]
  · intro min
    rw [hold, State.setHold, if_pos min, if_pos rfl]
  · intro max level
    rw [hold, State.setHold, if_neg (by simp [max])]
  · intro held
    rw [grant]
    split
    case isTrue cedes =>
      have stays : s.canCede = false := by
        rw [← Bool.not_eq_true, s.canCede_iff]
        rintro ⟨owner, stuck, lock⟩
        rcases held with h | h | h | h <;> simp_all
      rw [State.grant, if_neg (by simp [stays])]
    case isFalse => rfl
  · intro max ch0 ch1
    simp [grant, State.grant, max, ch0, ch1]
  · intro min low
    simp [grant, State.grant, min, low]
  · intro can lock max ch0
    obtain ⟨granted, cede⟩ := ceded can lock
    rw [granted, State.grant, if_pos cede, max]
    exact if_pos ch0
  · intro can lock max ch0 ch1
    obtain ⟨granted, cede⟩ := ceded can lock
    rw [granted, State.grant, if_pos cede, max]
    exact (if_neg ch0).trans (if_pos ch1)
  · intro can min high
    obtain ⟨granted, cede⟩ := ceded can (by simp [State.lockActive, min])
    rw [granted, State.grant, if_pos cede, min]
    exact if_pos high
  · intro granted
    rw [release, State.release, if_neg Bool.false_ne_true, if_pos granted]
  · intro granted
    rw [release, State.release, if_pos rfl, if_pos granted]
  · intro min owner
    rw [hold, State.setHold, if_pos min, if_neg Bool.false_ne_true, if_pos owner]
  · intro low
    rw [nmi, State.setNmi, low]
    simp
  · intro high
    rw [nmi, State.setNmi, high]
    simp [← high]

end Sys2Proof

/-! ## Results and flags

What each operation of the arithmetic and logic unit answers, as numbers (R350, R400). -/

namespace Sys2Proof.Claims

open Machine

variable {n : Nat}

/-! ### The flags of a result -/

theorem parity8_iff (r : BitVec n) : parity8 r = true ↔ ones r % 2 = 0 := by
  unfold parity8 ones
  generalize r.getLsbD 0 = b0, r.getLsbD 1 = b1, r.getLsbD 2 = b2, r.getLsbD 3 = b3, r.getLsbD 4 = b4,
    r.getLsbD 5 = b5, r.getLsbD 6 = b6, r.getLsbD 7 = b7
  revert b0 b1 b2 b3 b4 b5 b6 b7
  decide

theorem tells_of_eq {r : BitVec n} {g : Flags} (sign : g.sf = r.msb) (zero : g.zf = decide (r = 0))
    (parity : g.pf = parity8 r) : Tells r g where
  sign := by rw [sign, BitVec.msb_eq_toInt, decide_eq_true_iff]
  zero := by rw [zero, decide_eq_true_iff, ← BitVec.toNat_inj]; simp
  parity := by rw [parity, parity8_iff]

theorem tells_withResult (f : Flags) (r : BitVec n) : Tells r (f.withResult r) := tells_of_eq rfl rfl rfl

/-! ### Sums and differences -/

/-- The carry an operation takes in. -/
theorem carryIn_eq (counts : Bool) (f : Flags) : carryIn counts f = (counts && f.cf).toNat := by
  unfold carryIn
  cases counts <;> cases f.cf <;> rfl

theorem sumOf_toNat (a b : BitVec n) (c : Bool) : (sumOf a b c).toNat = (a.toNat + b.toNat + c.toNat) % 2 ^ n := by
  rw [sumOf, BitVec.toNat_ofNat]

theorem sum_sound (hn : n = 8 ∨ n = 16) (counts : Bool) (f : Flags) (a b : BitVec n) :
    Sum counts n f a b (sumOf a b (counts && f.cf)) (f.sum a b (counts && f.cf)) := by
  have value := sumOf_toNat a b (counts && f.cf)
  have carry := Bool.toNat_le (counts && f.cf)
  rw [← carryIn_eq] at value carry
  refine ⟨value, ?_, ?_, ?_, tells_of_eq rfl rfl rfl, rfl, rfl, rfl⟩
  · simp [Flags.sum, carryIn_eq]
  · simp [Flags.sum, carryIn_eq]
  · have wide := a.isLt
    have wide' := b.isLt
    simp only [Flags.sum, BitVec.msb_eq_decide, Signed, BitVec.toInt_eq_toNat_cond, value, Bool.and_eq_true,
      decide_eq_true_eq, decide_eq_decide, ne_eq]
    generalize carryIn counts f = c at *
    rcases hn with rfl | rfl
    · split <;> split <;> omega
    · split <;> split <;> omega

theorem diffOf_toNat (hn : n = 8 ∨ n = 16) (a b : BitVec n) (c : Bool) :
    ((diffOf a b c).toNat : Int) = ((a.toNat : Int) - b.toNat - c.toNat) % 2 ^ n := by
  have wide := a.isLt
  have wide' := b.isLt
  have carry := Bool.toNat_le c
  rw [diffOf, BitVec.toNat_sub, BitVec.toNat_sub, BitVec.toNat_ofNat]
  rcases hn with rfl | rfl <;> omega

theorem diff_sound (hn : n = 8 ∨ n = 16) (counts : Bool) (f : Flags) (a b : BitVec n) :
    Diff counts n f a b (diffOf a b (counts && f.cf)) (f.diff a b (counts && f.cf)) := by
  have value := diffOf_toNat hn a b (counts && f.cf)
  have carry := Bool.toNat_le (counts && f.cf)
  rw [← carryIn_eq] at value carry
  refine ⟨value, ?_, ?_, ?_, tells_of_eq rfl rfl rfl, rfl, rfl, rfl⟩
  · simp [Flags.diff, carryIn_eq]
  · simp [Flags.diff, carryIn_eq]
  · have wide := a.isLt
    have wide' := b.isLt
    simp only [Flags.diff, BitVec.msb_eq_decide, Signed, BitVec.toInt_eq_toNat_cond, Bool.and_eq_true,
      decide_eq_true_eq, decide_eq_decide, ne_eq]
    generalize (diffOf a b (counts && f.cf)).toNat = r at *
    generalize carryIn counts f = c at *
    rcases hn with rfl | rfl
    · split <;> split <;> omega
    · split <;> split <;> omega

/-- One more, from a sum with 1. -/
theorem inc_sound (hn : n = 8 ∨ n = 16) (f : Flags) (a : BitVec n) :
    Inc n f a (sumOf a 1#n false) { f.sum a 1#n false with cf := f.cf } := by
  obtain ⟨value, -, half, overflow, ⟨sign, zero, parity⟩, kept⟩ := sum_sound hn false f a 1#n
  have wide := a.isLt
  rw [Bool.false_and, carryIn_eq, Bool.false_and, Bool.toNat_false] at *
  refine ⟨?_, rfl, half.trans ?_, overflow.trans ?_, ⟨sign, zero, parity⟩, kept⟩
  · rcases hn with rfl | rfl <;> simpa using value
  · rcases hn with rfl | rfl <;> simp <;> omega
  · rcases hn with rfl | rfl
    · simp only [Signed, BitVec.toInt_eq_toNat_cond, show (1#8).toNat = 1 from rfl]
      split <;> omega
    · simp only [Signed, BitVec.toInt_eq_toNat_cond, show (1#16).toNat = 1 from rfl]
      split <;> omega

/-- One less, from a difference with 1. -/
theorem dec_sound (hn : n = 8 ∨ n = 16) (f : Flags) (a : BitVec n) :
    Dec n f a (diffOf a 1#n false) { f.diff a 1#n false with cf := f.cf } := by
  obtain ⟨value, -, half, overflow, ⟨sign, zero, parity⟩, kept⟩ := diff_sound hn false f a 1#n
  have wide := a.isLt
  rw [Bool.false_and, carryIn_eq, Bool.false_and, Bool.toNat_false] at *
  refine ⟨?_, rfl, half.trans ?_, overflow.trans ?_, ⟨sign, zero, parity⟩, kept⟩
  · rcases hn with rfl | rfl <;> simp at value ⊢ <;> omega
  · rcases hn with rfl | rfl <;> simp
  · rcases hn with rfl | rfl
    · simp only [Signed, BitVec.toInt_eq_toNat_cond, show (1#8).toNat = 1 from rfl]
      split <;> omega
    · simp only [Signed, BitVec.toInt_eq_toNat_cond, show (1#16).toNat = 1 from rfl]
      split <;> omega

/-- The negated number, from a difference with 0. -/
theorem neg_sound (hn : n = 8 ∨ n = 16) (f : Flags) (a : BitVec n) :
    Neg n f a (diffOf 0#n a false) (f.diff 0#n a false) := by
  obtain ⟨value, borrow, half, overflow, tells, kept⟩ := diff_sound hn false f 0#n a
  have wide := a.isLt
  rw [Bool.false_and, carryIn_eq, Bool.false_and, Bool.toNat_false] at *
  refine ⟨?_, borrow.trans ?_, half.trans ?_, overflow.trans ?_, tells, kept⟩
  · rcases hn with rfl | rfl <;> simp at value ⊢ <;> omega
  · simp; omega
  · simp; omega
  · rcases hn with rfl | rfl
    · simp only [Signed, BitVec.toInt_eq_toNat_cond, show (0#8).toNat = 0 from rfl]
      split <;> omega
    · simp only [Signed, BitVec.toInt_eq_toNat_cond, show (0#16).toNat = 0 from rfl]
      split <;> omega

/-! ### Logic -/

/-- The flags of a logic operation, AF being free. -/
theorem logic_sound {op : Bool → Bool → Bool} {f : Flags} {a b r : BitVec n}
    (value : ∀ k, k < n → r.getLsbD k = op (a.getLsbD k) (b.getLsbD k)) (af : Bool) :
    Logic op n f a b r { f.logic r with af := af } :=
  ⟨value, rfl, rfl, tells_of_eq rfl rfl rfl, rfl, rfl, rfl⟩

theorem complement_sound (f : Flags) (a : BitVec n) : Complement n f a (a ^^^ BitVec.allOnes n) f :=
  ⟨fun k below => by simp [below], rfl⟩

end Sys2Proof.Claims

/-! ## Arithmetic and logic instructions

A destination is read, an operation answers a result and flags, some of which are undefined, and the result is written:
said once for a byte and once for a word, and then form by form. -/

namespace Sys2Proof.Claims

open Machine

/-! ### Undefined flags -/

/-- Flags after some of them have taken free bits. -/
def Drawn : List Flag → Flags → Flags → Prop
  | [], f, g => g = f
  | k :: ks, f, g => ∃ b, Drawn ks (f.put k b) g

theorem undef_drawn (s : State) (ks : List Flag) :
    ∃ f n, s.undef ks = { s with flags := f, draws := n } ∧ Drawn ks s.flags f := by
  induction ks generalizing s with
  | nil => exact ⟨s.flags, s.draws, rfl, rfl⟩
  | cons k ks ih =>
    obtain ⟨f, n, same, drawn⟩ := ih { s.drawBit.2 with flags := s.flags.put k s.drawBit.1 }
    exact ⟨f, n, same, s.drawBit.1, drawn⟩

/-! ### A destination written, and flags -/

/-- A byte operation on a destination: result, flags, of which `ks` are undefined, and frame. -/
theorem update8_after (s : State) (h : s.Quiet) (p : Place Reg8) (op : Alu1 8) (ks : List Flag) {P : Flags → Prop}
    (status : ∀ g, Drawn ks (op s.flags (operand8 s p)).2 g → P g) :
    After { s with regs := regsAfter8 s p (op s.flags (operand8 s p)).1 } ((s.update8 p op).undef ks)
      (bytesAfter8 s p (op s.flags (operand8 s p)).1) P := by
  obtain ⟨n, w, l, read⟩ := get8_operand s h p
  obtain ⟨m, k, l', wrote, bytes⟩ := put8_after
    ({ s with floats := n, waits := w, log := l }.setFlags (op s.flags (operand8 s p)).2)
      h p (op s.flags (operand8 s p)).1
  have ran : s.update8 p op = { s with
      regs := regsAfter8 s p (op s.flags (operand8 s p)).1, flags := (op s.flags (operand8 s p)).2, mem := m,
      waits := k, floats := n, log := l' } := by
    unfold State.update8
    rw [read]
    exact wrote.trans (by cases p <;> rfl)
  obtain ⟨f, d, undef, drawn⟩ := undef_drawn (s.update8 p op) ks
  rw [ran] at undef drawn ⊢
  rw [undef]
  exact ⟨rfl, fun a => (bytes a).trans (by cases p <;> rfl), status f drawn⟩

/-- A word operation on a destination. -/
theorem update16_after (s : State) (h : s.Quiet) (p : Place Reg16) (op : Alu1 16) (ks : List Flag) {P : Flags → Prop}
    (status : ∀ g, Drawn ks (op s.flags (operand16 s p)).2 g → P g) :
    After { s with regs := regsAfter16 s p (op s.flags (operand16 s p)).1 } ((s.update16 p op).undef ks)
      (bytesAfter16 s p (op s.flags (operand16 s p)).1) P := by
  obtain ⟨n, w, l, read⟩ := get16_operand s h p
  obtain ⟨m, k, l', wrote, bytes⟩ := put16_after
    ({ s with floats := n, waits := w, log := l }.setFlags (op s.flags (operand16 s p)).2) h p
    (op s.flags (operand16 s p)).1
  have ran : s.update16 p op = { s with
      regs := regsAfter16 s p (op s.flags (operand16 s p)).1, flags := (op s.flags (operand16 s p)).2, mem := m,
      waits := k, floats := n, log := l' } := by
    unfold State.update16
    rw [read]
    exact wrote.trans (by cases p <;> rfl)
  obtain ⟨f, d, undef, drawn⟩ := undef_drawn (s.update16 p op) ks
  rw [ran] at undef drawn ⊢
  rw [undef]
  exact ⟨rfl, fun a => (bytes a).trans (by cases p <;> rfl), status f drawn⟩

/-- A byte operation for its flags only. -/
theorem inspect8_after (s : State) (h : s.Quiet) (p : Place Reg8) (op : Alu1 8) (ks : List Flag) {P : Flags → Prop}
    (status : ∀ g, Drawn ks (op s.flags (operand8 s p)).2 g → P g) :
    After s ((s.inspect8 p op).undef ks) s.byteAt P := by
  obtain ⟨n, w, l, read⟩ := get8_operand s h p
  have ran : s.inspect8 p op =
      { s with flags := (op s.flags (operand8 s p)).2, floats := n, waits := w, log := l } := by
    unfold State.inspect8
    rw [read]
    rfl
  obtain ⟨f, d, undef, drawn⟩ := undef_drawn (s.inspect8 p op) ks
  rw [ran] at undef drawn ⊢
  rw [undef]
  exact ⟨rfl, fun _ => rfl, status f drawn⟩

/-- A word operation for its flags only. -/
theorem inspect16_after (s : State) (h : s.Quiet) (p : Place Reg16) (op : Alu1 16) (ks : List Flag) {P : Flags → Prop}
    (status : ∀ g, Drawn ks (op s.flags (operand16 s p)).2 g → P g) :
    After s ((s.inspect16 p op).undef ks) s.byteAt P := by
  obtain ⟨n, w, l, read⟩ := get16_operand s h p
  have ran : s.inspect16 p op =
      { s with flags := (op s.flags (operand16 s p)).2, floats := n, waits := w, log := l } := by
    unfold State.inspect16
    rw [read]
    rfl
  obtain ⟨f, d, undef, drawn⟩ := undef_drawn (s.inspect16 p op) ks
  rw [ran] at undef drawn ⊢
  rw [undef]
  exact ⟨rfl, fun _ => rfl, status f drawn⟩

/-! ### One form of an instruction -/

/-- The operation does what the relation says, whatever bits its undefined flags take. -/
def Sound (rel : Rel) {n : Nat} (op : Alu n) (ks : List Flag) : Prop :=
  ∀ f a b g, Drawn ks (op f a b).2 g → rel n f a b (op f a b).1 g

/-- A one-operand operation does what the relation says. -/
def Sound1 (rel : Rel1) {n : Nat} (op : Alu1 n) : Prop := ∀ f a, rel n f a (op f a).1 (op f a).2

section Forms

variable {rel : Rel} {op8 : Alu 8} {op16 : Alu 16} {ks : List Flag} (sound8 : Sound rel op8 ks)
  (sound16 : Sound rel op16 ks) {i : Instr}

include sound8 in
theorem updates8_of_aluTo {e : RM Reg8} {src : Source Reg8 8}
    (ends : ∀ s, exec i s = .next ((s.aluTo8 op8 e (source8 s src)).undef ks)) : Updates8 rel i e src := fun s h =>
  ⟨_, ends s, _, update8_after s h (s.place e) (fun f a => op8 f a (source8 s src)) ks
    fun g drawn => sound8 _ _ _ g drawn⟩

include sound16 in
theorem updates16_of_aluTo {e : RM Reg16} {src : Source Reg16 16}
    (ends : ∀ s, exec i s = .next ((s.aluTo16 op16 e (source16 s src)).undef ks)) : Updates16 rel i e src := fun s h =>
  ⟨_, ends s, _,
    update16_after s h (s.place e) (fun f a => op16 f a (source16 s src)) ks fun g drawn => sound16 _ _ _ g drawn⟩

include sound8 in
theorem updates8_of_aluFrom {r : Reg8} {e : RM Reg8} (ends : ∀ s, exec i s = .next ((s.aluFrom8 op8 r e).undef ks)) :
    Updates8 rel i (.reg r) (.rm e) := by
  intro s h
  obtain ⟨n, w, l, read⟩ := get8_operand s h (s.place e)
  have after := update8_after { s with floats := n, waits := w, log := l } h (.reg r)
    (fun f a => op8 f a (operand8 s (s.place e))) ks fun g drawn => sound8 _ _ _ g drawn
  refine ⟨_, ends s, (op8 s.flags (s.reg8 r) (operand8 s (s.place e))).1, ?_⟩
  unfold State.aluFrom8
  rw [read]
  exact ⟨after.frame, after.memory, after.status⟩

include sound16 in
theorem updates16_of_aluFrom {r : Reg16} {e : RM Reg16}
    (ends : ∀ s, exec i s = .next ((s.aluFrom16 op16 r e).undef ks)) : Updates16 rel i (.reg r) (.rm e) := by
  intro s h
  obtain ⟨n, w, l, read⟩ := get16_operand s h (s.place e)
  have after := update16_after { s with floats := n, waits := w, log := l } h (.reg r)
    (fun f a => op16 f a (operand16 s (s.place e))) ks fun g drawn => sound16 _ _ _ g drawn
  refine ⟨_, ends s, (op16 s.flags (s.reg16 r) (operand16 s (s.place e))).1, ?_⟩
  unfold State.aluFrom16
  rw [read]
  exact ⟨after.frame, after.memory, after.status⟩

include sound8 in
theorem inspects8_of_testTo {e : RM Reg8} {src : Source Reg8 8}
    (ends : ∀ s, exec i s = .next ((s.testTo8 op8 e (source8 s src)).undef ks)) : Inspects8 rel i e src := fun s h =>
  ⟨_, ends s, _,
    inspect8_after s h (s.place e) (fun f a => op8 f a (source8 s src)) ks fun g drawn => sound8 _ _ _ g drawn⟩

include sound16 in
theorem inspects16_of_testTo {e : RM Reg16} {src : Source Reg16 16}
    (ends : ∀ s, exec i s = .next ((s.testTo16 op16 e (source16 s src)).undef ks)) : Inspects16 rel i e src :=
    fun s h =>
  ⟨_, ends s, _,
    inspect16_after s h (s.place e) (fun f a => op16 f a (source16 s src)) ks fun g drawn => sound16 _ _ _ g drawn⟩

include sound8 in
theorem inspects8_of_testFrom {r : Reg8} {e : RM Reg8}
    (ends : ∀ s, exec i s = .next ((s.testFrom8 op8 r e).undef ks)) : Inspects8 rel i (.reg r) (.rm e) := by
  intro s h
  obtain ⟨n, w, l, read⟩ := get8_operand s h (s.place e)
  have after := inspect8_after { s with floats := n, waits := w, log := l } h (.reg r)
    (fun f a => op8 f a (operand8 s (s.place e))) ks fun g drawn => sound8 _ _ _ g drawn
  refine ⟨_, ends s, (op8 s.flags (s.reg8 r) (operand8 s (s.place e))).1, ?_⟩
  unfold State.testFrom8
  rw [read]
  exact ⟨after.frame, after.memory, after.status⟩

include sound16 in
theorem inspects16_of_testFrom {r : Reg16} {e : RM Reg16}
    (ends : ∀ s, exec i s = .next ((s.testFrom16 op16 r e).undef ks)) : Inspects16 rel i (.reg r) (.rm e) := by
  intro s h
  obtain ⟨n, w, l, read⟩ := get16_operand s h (s.place e)
  have after := inspect16_after { s with floats := n, waits := w, log := l } h (.reg r)
    (fun f a => op16 f a (operand16 s (s.place e))) ks fun g drawn => sound16 _ _ _ g drawn
  refine ⟨_, ends s, (op16 s.flags (s.reg16 r) (operand16 s (s.place e))).1, ?_⟩
  unfold State.testFrom16
  rw [read]
  exact ⟨after.frame, after.memory, after.status⟩

end Forms

section OneOperand

variable {rel : Rel1} {op8 : Alu1 8} {op16 : Alu1 16} {i : Instr} {s : State}

theorem changes8_of_update (sound : Sound1 rel op8) {e : RM Reg8} (h : s.Quiet)
    (ends : exec i s = .next (s.update8 (s.place e) op8)) : Changes8 rel i e s :=
  ⟨_, ends, _, update8_after s h (s.place e) op8 [] fun g same => by rw [show g = _ from same]; exact sound _ _⟩

theorem changes16_of_update (sound : Sound1 rel op16) {e : RM Reg16} (h : s.Quiet)
    (ends : exec i s = .next (s.update16 (s.place e) op16)) : Changes16 rel i e s :=
  ⟨_, ends, _, update16_after s h (s.place e) op16 [] fun g same => by rw [show g = _ from same]; exact sound _ _⟩

end OneOperand

/-! ### What the operations answer -/

section Operations

variable {n : Nat}

theorem sound_add (hn : n = 8 ∨ n = 16) : Sound (Sum false) (Alu.add (n := n)) [] := fun f a b g same => by
  rw [show g = _ from same]; exact sum_sound hn false f a b

theorem sound_adc (hn : n = 8 ∨ n = 16) : Sound (Sum true) (Alu.adc (n := n)) [] := fun f a b g same => by
  rw [show g = _ from same]; exact sum_sound hn true f a b

theorem sound_sub (hn : n = 8 ∨ n = 16) : Sound (Diff false) (Alu.sub (n := n)) [] := fun f a b g same => by
  rw [show g = _ from same]; exact diff_sound hn false f a b

theorem sound_sbb (hn : n = 8 ∨ n = 16) : Sound (Diff true) (Alu.sbb (n := n)) [] := fun f a b g same => by
  rw [show g = _ from same]; exact diff_sound hn true f a b

theorem sound_and : Sound (Logic and) (Alu.and (n := n)) [.af] := by
  rintro f a b g ⟨af, same⟩
  rw [show g = _ from same]
  exact logic_sound (fun _ _ => BitVec.getLsbD_and) af

theorem sound_or : Sound (Logic or) (Alu.or (n := n)) [.af] := by
  rintro f a b g ⟨af, same⟩
  rw [show g = _ from same]
  exact logic_sound (fun _ _ => BitVec.getLsbD_or) af

theorem sound_xor : Sound (Logic xor) (Alu.xor (n := n)) [.af] := by
  rintro f a b g ⟨af, same⟩
  rw [show g = _ from same]
  exact logic_sound (fun _ _ => BitVec.getLsbD_xor) af

theorem sound_inc (hn : n = 8 ∨ n = 16) : Sound1 Inc (Alu1.inc (n := n)) := inc_sound hn

theorem sound_dec (hn : n = 8 ∨ n = 16) : Sound1 Dec (Alu1.dec (n := n)) := dec_sound hn

theorem sound_neg (hn : n = 8 ∨ n = 16) : Sound1 Neg (Alu1.neg (n := n)) := neg_sound hn

theorem sound_not : Sound1 Complement (Alu1.not (n := n)) := complement_sound

end Operations

/-- The two widths. -/
theorem byteWide : (8 : Nat) = 8 ∨ (8 : Nat) = 16 := .inl rfl

theorem wordWide : (16 : Nat) = 8 ∨ (16 : Nat) = 16 := .inr rfl

end Sys2Proof.Claims

namespace Sys2Proof

open Machine Claims

/-- The eight forms of an operation, from what each of them runs. -/
theorem eightForms_of {rel : Rel} {op8 : Alu 8} {op16 : Alu 16} {ks : List Flag} (sound8 : Sound rel op8 ks)
    (sound16 : Sound rel op16 ks) {rm8r8 : RM Reg8 → Reg8 → Instr} {rm16r16 : RM Reg16 → Reg16 → Instr}
    {r8rm8 : Reg8 → RM Reg8 → Instr} {r16rm16 : Reg16 → RM Reg16 → Instr} {alImm : Byte → Instr} {axImm : Word → Instr}
    {rm8imm : RM Reg8 → Byte → Instr} {rm16imm : RM Reg16 → Word → Instr}
    (h1 : ∀ e r s, exec (rm8r8 e r) s = .next ((s.aluTo8 op8 e (s.reg8 r)).undef ks))
    (h2 : ∀ e r s, exec (rm16r16 e r) s = .next ((s.aluTo16 op16 e (s.reg16 r)).undef ks))
    (h3 : ∀ r e s, exec (r8rm8 r e) s = .next ((s.aluFrom8 op8 r e).undef ks))
    (h4 : ∀ r e s, exec (r16rm16 r e) s = .next ((s.aluFrom16 op16 r e).undef ks))
    (h5 : ∀ v s, exec (alImm v) s = .next ((s.aluTo8 op8 (.reg .al) v).undef ks))
    (h6 : ∀ v s, exec (axImm v) s = .next ((s.aluTo16 op16 (.reg .ax) v).undef ks))
    (h7 : ∀ e v s, exec (rm8imm e v) s = .next ((s.aluTo8 op8 e v).undef ks))
    (h8 : ∀ e v s, exec (rm16imm e v) s = .next ((s.aluTo16 op16 e v).undef ks)) :
    EightForms rel rm8r8 rm16r16 r8rm8 r16rm16 alImm axImm rm8imm rm16imm :=
  ⟨fun e r => updates8_of_aluTo sound8 (h1 e r), fun e r => updates16_of_aluTo sound16 (h2 e r),
    fun r e => updates8_of_aluFrom sound8 (h3 r e), fun r e => updates16_of_aluFrom sound16 (h4 r e),
    fun v => updates8_of_aluTo sound8 (h5 v), fun v => updates16_of_aluTo sound16 (h6 v),
    fun e v => updates8_of_aluTo sound8 (h7 e v), fun e v => updates16_of_aluTo sound16 (h8 e v)⟩

/-- The other two immediate forms. -/
theorem twoMoreForms_of {rel : Rel} {op8 : Alu 8} {op16 : Alu 16} (sound8 : Sound rel op8 [])
    (sound16 : Sound rel op16 []) {rm8alt : RM Reg8 → Byte → Instr} {rm16simm : RM Reg16 → Byte → Instr}
    (h1 : ∀ e v s, exec (rm8alt e v) s = .next (s.aluTo8 op8 e v))
    (h2 : ∀ e v s, exec (rm16simm e v) s = .next (s.aluTo16 op16 e (v.signExtend 16))) :
    TwoMoreForms rel rm8alt rm16simm :=
  ⟨fun e v => updates8_of_aluTo sound8 (h1 e v), fun e v => updates16_of_aluTo sound16 (h2 e v)⟩

/-- Settles O20. -/
theorem addAndAdc : Obligations.AddAndAdc :=
  ⟨eightForms_of (sound_add byteWide) (sound_add wordWide) (fun _ _ _ => rfl) (fun _ _ _ => rfl) (fun _ _ _ => rfl)
      (fun _ _ _ => rfl) (fun _ _ => rfl) (fun _ _ => rfl) (fun _ _ _ => rfl) (fun _ _ _ => rfl),
    twoMoreForms_of (sound_add byteWide) (sound_add wordWide) (fun _ _ _ => rfl) (fun _ _ _ => rfl),
    eightForms_of (sound_adc byteWide) (sound_adc wordWide) (fun _ _ _ => rfl) (fun _ _ _ => rfl) (fun _ _ _ => rfl)
      (fun _ _ _ => rfl) (fun _ _ => rfl) (fun _ _ => rfl) (fun _ _ _ => rfl) (fun _ _ _ => rfl),
    twoMoreForms_of (sound_adc byteWide) (sound_adc wordWide) (fun _ _ _ => rfl) (fun _ _ _ => rfl)⟩

/-- Settles O21. -/
theorem subAndSbb : Obligations.SubAndSbb :=
  ⟨eightForms_of (sound_sub byteWide) (sound_sub wordWide) (fun _ _ _ => rfl) (fun _ _ _ => rfl) (fun _ _ _ => rfl)
      (fun _ _ _ => rfl) (fun _ _ => rfl) (fun _ _ => rfl) (fun _ _ _ => rfl) (fun _ _ _ => rfl),
    twoMoreForms_of (sound_sub byteWide) (sound_sub wordWide) (fun _ _ _ => rfl) (fun _ _ _ => rfl),
    eightForms_of (sound_sbb byteWide) (sound_sbb wordWide) (fun _ _ _ => rfl) (fun _ _ _ => rfl) (fun _ _ _ => rfl)
      (fun _ _ _ => rfl) (fun _ _ => rfl) (fun _ _ => rfl) (fun _ _ _ => rfl) (fun _ _ _ => rfl),
    twoMoreForms_of (sound_sbb byteWide) (sound_sbb wordWide) (fun _ _ _ => rfl) (fun _ _ _ => rfl)⟩

/-- Settles O33. -/
theorem logicOperations : Obligations.LogicOperations :=
  ⟨eightForms_of sound_and sound_and (fun _ _ _ => rfl) (fun _ _ _ => rfl) (fun _ _ _ => rfl) (fun _ _ _ => rfl)
      (fun _ _ => rfl) (fun _ _ => rfl) (fun _ _ _ => rfl) (fun _ _ _ => rfl),
    eightForms_of sound_or sound_or (fun _ _ _ => rfl) (fun _ _ _ => rfl) (fun _ _ _ => rfl) (fun _ _ _ => rfl)
      (fun _ _ => rfl) (fun _ _ => rfl) (fun _ _ _ => rfl) (fun _ _ _ => rfl),
    eightForms_of sound_xor sound_xor (fun _ _ _ => rfl) (fun _ _ _ => rfl) (fun _ _ _ => rfl) (fun _ _ _ => rfl)
      (fun _ _ => rfl) (fun _ _ => rfl) (fun _ _ _ => rfl) (fun _ _ _ => rfl)⟩

/-- Settles O22. -/
theorem compareAndTest : Obligations.CompareAndTest :=
  ⟨fun _ _ => inspects8_of_testTo (sound_sub byteWide) fun _ => rfl,
    fun _ _ => inspects16_of_testTo (sound_sub wordWide) fun _ => rfl,
    fun _ _ => inspects8_of_testFrom (sound_sub byteWide) fun _ => rfl,
    fun _ _ => inspects16_of_testFrom (sound_sub wordWide) fun _ => rfl,
    fun _ => inspects8_of_testTo (sound_sub byteWide) fun _ => rfl,
    fun _ => inspects16_of_testTo (sound_sub wordWide) fun _ => rfl,
    fun _ _ => inspects8_of_testTo (sound_sub byteWide) fun _ => rfl,
    fun _ _ => inspects16_of_testTo (sound_sub wordWide) fun _ => rfl,
    fun _ _ => inspects8_of_testTo (sound_sub byteWide) fun _ => rfl,
    fun _ _ => inspects16_of_testTo (sound_sub wordWide) fun _ => rfl,
    fun _ _ => inspects8_of_testTo sound_and fun _ => rfl, fun _ _ => inspects16_of_testTo sound_and fun _ => rfl,
    fun _ => inspects8_of_testTo sound_and fun _ => rfl, fun _ => inspects16_of_testTo sound_and fun _ => rfl,
    fun _ _ => inspects8_of_testTo sound_and fun _ => rfl, fun _ _ => inspects16_of_testTo sound_and fun _ => rfl⟩

/-- Settles O23. -/
theorem incAndDec : Obligations.IncAndDec :=
  ⟨fun _ h => ⟨fun _ => changes8_of_update (sound_inc byteWide) h rfl,
      fun _ => changes16_of_update (sound_inc wordWide) h rfl⟩,
    fun _ h => ⟨fun _ => changes8_of_update (sound_dec byteWide) h rfl,
      fun _ => changes16_of_update (sound_dec wordWide) h rfl⟩,
    fun _ h _ => ⟨changes16_of_update (sound_inc wordWide) h rfl, changes16_of_update (sound_dec wordWide) h rfl⟩⟩

/-- Settles O24. -/
theorem negAndNot : Obligations.NegAndNot :=
  ⟨fun _ h => ⟨fun _ => changes8_of_update (sound_neg byteWide) h rfl,
      fun _ => changes16_of_update (sound_neg wordWide) h rfl⟩,
    fun _ h => ⟨fun _ => changes8_of_update sound_not h rfl,
      fun _ => changes16_of_update sound_not h rfl⟩⟩

end Sys2Proof

/-! ## Transfers of control

What `After` says is passed on by a push, a pop and a jump; each instruction is then the chain of its parts. -/

namespace Sys2Proof.Claims

open Machine

variable {b t : State} {bytes : Addr → Byte} {P : Flags → Prop}

/-! ### `After`, step by step -/

theorem After.refl (s : State) : After s s s.byteAt (Same s.flags) := ⟨rfl, fun _ => rfl, rfl⟩

/-- The fields a state after an instruction may have changed. -/
theorem After.fields (a : After b t bytes P) : ∃ f m d n w l,
    t = { b with flags := f, mem := m, draws := d, floats := n, waits := w, log := l } ∧
      (∀ x, ({ b with mem := m } : State).byteAt x = bytes x) ∧ P f :=
  ⟨_, _, _, _, _, _, a.frame, a.memory, a.status⟩

theorem After.quiet (a : After b t bytes P) (h : b.Quiet) : t.Quiet := by
  obtain ⟨f, m, d, n, w, l, rfl, -, -⟩ := a.fields
  exact h

theorem After.jumpNear (a : After b t bytes P) (h : b.Quiet) (v : Word) :
    After (jumped b b.segs.cs v) (t.jumpNear v) bytes P := by
  rw [t.jumpNear_of_quiet (a.quiet h)]
  obtain ⟨f, m, d, n, w, l, rfl, memory, status⟩ := a.fields
  exact ⟨rfl, memory, status⟩

theorem After.jumpFar (a : After b t bytes P) (h : b.Quiet) (c v : Word) :
    After (jumped b c v) (t.jumpFar c v) bytes P := by
  rw [t.jumpFar_of_quiet (a.quiet h)]
  obtain ⟨f, m, d, n, w, l, rfl, memory, status⟩ := a.fields
  exact ⟨rfl, memory, status⟩

theorem After.push (a : After b t bytes P) (h : b.Quiet) (v : Word) :
    After (withSp b (b.regs.sp - 2)) (t.push16 v) (pokeWord b bytes .ss (b.regs.sp - 2) v) P := by
  obtain ⟨m', l', same, poked⟩ := push16_pokes t (a.quiet h) v
  obtain ⟨f, m, d, n, w, l, rfl, memory, status⟩ := a.fields
  refine ⟨by rw [same]; rfl, fun x => (poked x).trans ?_, by rw [same]; exact status⟩
  have bytes_eq : State.byteAt { b with flags := f, mem := m, draws := d, floats := n, waits := w, log := l } = bytes :=
    funext memory
  rw [bytes_eq]
  rfl

/-- A read changes nothing a statement sees. -/
theorem After.read (a : After b t bytes P) (n w : Nat) (l : Log) :
    After b { t with floats := n, waits := w, log := l } bytes P := by
  obtain ⟨f, m, d, n', w', l', rfl, memory, status⟩ := a.fields
  exact ⟨rfl, memory, status⟩

theorem After.setFlags (a : After b t bytes P) (f : Flags) {Q : Flags → Prop} (q : Q f) :
    After b (t.setFlags f) bytes Q := by
  obtain ⟨f', m, d, n, w, l, rfl, memory, -⟩ := a.fields
  exact ⟨rfl, memory, q⟩

/-- General registers written. -/
theorem After.setReg16 (a : After b t bytes P) (r : Reg16) (v : Word) :
    After { b with regs := b.regs.put16 r v } (t.setReg16 r v) bytes P := by
  obtain ⟨f, m, d, n, w, l, rfl, memory, status⟩ := a.fields
  exact ⟨rfl, memory, status⟩

theorem After.setReg8 (a : After b t bytes P) (r : Reg8) (v : Byte) :
    After { b with regs := b.regs.put8 r v } (t.setReg8 r v) bytes P := by
  obtain ⟨f, m, d, n, w, l, rfl, memory, status⟩ := a.fields
  exact ⟨rfl, memory, status⟩

theorem After.setSegReg (a : After b t bytes P) (r : SegReg) (v : Word) :
    After { b with segs := b.segs.put r v } (t.setSegReg r v) bytes P := by
  obtain ⟨f, m, d, n, w, l, rfl, memory, status⟩ := a.fields
  exact ⟨rfl, memory, status⟩

theorem After.loadSeg (a : After b t bytes P) (r : SegReg) (v : Word) :
    After { b with segs := b.segs.put r v, shadow := .all } (t.loadSeg r v) bytes P := by
  obtain ⟨f, m, d, n, w, l, rfl, memory, status⟩ := a.fields
  exact ⟨rfl, memory, status⟩

theorem sub_two_two (v : Word) : v - 2 - 2 = v - 4 := by bv_omega

theorem add_two_two (v : Word) : v + 2 + 2 = v + 4 := by bv_omega

/-- Two pushes. -/
theorem After.push_push (a : After b t bytes P) (h : b.Quiet) (v v' : Word) :
    After (withSp b (b.regs.sp - 4)) ((t.push16 v).push16 v')
      (pokeWord b (pokeWord b bytes .ss (b.regs.sp - 2) v) .ss (b.regs.sp - 4) v') P := by
  have twice := (a.push h v).push h v'
  have sp : (withSp b (b.regs.sp - 2)).regs.sp - 2 = b.regs.sp - 4 := sub_two_two b.regs.sp
  rw [sp] at twice
  exact ⟨twice.frame, twice.memory, twice.status⟩

/-! ### Reads that an instruction begins with -/

theorem get8_after (s : State) (h : s.Quiet) (p : Place Reg8) :
    (s.get8 p).1 = operand8 s p ∧ After s (s.get8 p).2 s.byteAt (Same s.flags) := by
  obtain ⟨n, w, l, read⟩ := get8_operand s h p
  rw [read]
  exact ⟨rfl, (After.refl s).read n w l⟩

theorem get16_after (s : State) (h : s.Quiet) (p : Place Reg16) :
    (s.get16 p).1 = operand16 s p ∧ After s (s.get16 p).2 s.byteAt (Same s.flags) := by
  obtain ⟨n, w, l, read⟩ := get16_operand s h p
  rw [read]
  exact ⟨rfl, (After.refl s).read n w l⟩

theorem readFar_after (s : State) (h : s.Quiet) (m : MemOp) :
    (s.readFar m).1 = (farOffset s m, farSelector s m) ∧ After s (s.readFar m).2 s.byteAt (Same s.flags) := by
  obtain ⟨n, l, read⟩ := readFar_words s h m
  rw [read]
  exact ⟨rfl, (After.refl s).read n 0 l⟩

theorem pop16_after (s : State) (h : s.Quiet) :
    s.pop16.1 = loadedWord s .ss s.regs.sp s.floats ∧
      After (withSp s (s.regs.sp + 2)) s.pop16.2 s.byteAt (Same s.flags) := by
  obtain ⟨l, popped⟩ := pop16_loads s h
  rw [popped]
  exact ⟨rfl, rfl, fun _ => rfl, rfl⟩

/-- Two words popped, one after the other. -/
theorem pop16_twice (s : State) (h : s.Quiet) :
    ∃ l, s.pop16.1 = loadedWord s .ss s.regs.sp s.floats ∧
      s.pop16.2.pop16.1 = loadedWord s .ss (s.regs.sp + 2) (s.floats + spentWord s .ss s.regs.sp) ∧
      s.pop16.2.pop16.2 = { withSp s (s.regs.sp + 4) with
        floats := s.floats + spentWord s .ss s.regs.sp + spentWord s .ss (s.regs.sp + 2), waits := 0, log := l } := by
  obtain ⟨l, first⟩ := pop16_loads s h
  obtain ⟨l', second⟩ := pop16_loads s.pop16.2 (by rw [first]; exact h)
  rw [first] at second ⊢
  dsimp only at second ⊢
  rw [second]
  refine ⟨l', rfl, rfl, ?_⟩
  have sp : (withSp s (s.regs.sp + 2)).regs.sp + 2 = s.regs.sp + 4 := add_two_two s.regs.sp
  rw [show ({ withSp s (s.regs.sp + 2) with floats := s.floats + spentWord s .ss s.regs.sp, waits := 0, log := l } :
    State).regs.sp + 2 = s.regs.sp + 4 from sp]
  rfl

/-! ### Jumps on a condition -/

/-- A conditional jump runs `jumpIf` on a state whose IP and segments are those before it. -/
theorem jumpsWhen_of {i : Byte → Instr} {s base : State} {c : Prop} (cond : Bool) (h : base.Quiet)
    (ends : ∀ d, exec (i d) s = .next (base.jumpIf cond d)) (when_ : cond = true ↔ c) (ip : base.ip = s.ip)
    (segs : base.segs = s.segs) : JumpsWhen i s base c := by
  intro d
  constructor
  · intro holds
    refine ⟨_, ends d, ?_⟩
    rw [State.jumpIf, if_pos (when_.mpr holds), base.jumpNear_of_quiet h, ip, ← segs]
    rfl
  · intro fails
    rw [ends d, State.jumpIf, if_neg fun holds => fails (when_.mp holds)]

end Sys2Proof.Claims

namespace Sys2Proof

open Machine Claims

/-- Settles O50. -/
theorem conditionalJumps : Obligations.ConditionalJumps := by
  intro s h
  have plain : ∀ {i : Byte → Instr} {c : Prop} (cond : Bool), (∀ d, exec (i d) s = .next (s.jumpIf cond d)) →
      (cond = true ↔ c) → JumpsWhen i s s c := fun cond ends when_ => jumpsWhen_of cond h ends when_ rfl rfl
  have loops : ∀ {i : Byte → Instr} {c : Prop} (cond : Bool), (∀ d, exec (i d) s = .next (s.decCx.jumpIf cond d)) →
      (cond = true ↔ c) → JumpsWhen i s s.decCx c := fun cond ends when_ => jumpsWhen_of cond h ends when_ rfl rfl
  refine ⟨plain _ (fun _ => rfl) Iff.rfl, plain _ (fun _ => rfl) ?_, plain _ (fun _ => rfl) Iff.rfl,
    plain _ (fun _ => rfl) ?_, plain _ (fun _ => rfl) Iff.rfl, plain _ (fun _ => rfl) ?_, plain _ (fun _ => rfl) ?_,
    plain _ (fun _ => rfl) ?_, plain _ (fun _ => rfl) Iff.rfl, plain _ (fun _ => rfl) ?_,
    plain _ (fun _ => rfl) Iff.rfl, plain _ (fun _ => rfl) ?_, plain _ (fun _ => rfl) ?_, plain _ (fun _ => rfl) ?_,
    plain _ (fun _ => rfl) ?_, plain _ (fun _ => rfl) ?_, plain _ (fun _ => rfl) ?_, loops _ (fun _ => rfl) ?_,
    loops _ (fun _ => rfl) ?_, loops _ (fun _ => rfl) ?_⟩
  case refine_12 => exact decide_eq_true_iff
  case refine_13 => exact decide_eq_true_iff
  case refine_14 => rw [Bool.and_eq_true, decide_eq_true_iff]; exact Iff.rfl
  case refine_15 => rw [Bool.and_eq_true, decide_eq_true_iff, Bool.not_eq_true']; exact Iff.rfl
  all_goals simp

/-- Settles O51: the flags of a difference are what the conditions ask. -/
theorem jumpsAfterCompare : Obligations.JumpsAfterCompare := by
  intro s f n a b r h width diff
  obtain ⟨jo, jno, jb, jnb, je, jne, jbe, jnbe, js, jns, jp, jnp, jl, jnl, jle, jnle, -⟩ := conditionalJumps s h
  have restate : ∀ {i : Byte → Instr} {c c' : Prop}, JumpsWhen i s s c → (c ↔ c') → JumpsWhen i s s c' :=
    fun jumps same d => ⟨fun holds => (jumps d).1 (same.mpr holds), fun fails => (jumps d).2 fun holds =>
      fails (same.mp holds)⟩
  obtain ⟨value, borrow, -, overflow, ⟨sign, zero, -⟩, -⟩ := diff
  rw [show carryIn false f = 0 from if_neg (by simp)] at value borrow overflow
  have below : s.flags.cf = true ↔ a.toNat < b.toNat := by simpa using borrow
  have wide := a.isLt
  have wide' := b.isLt
  have wide'' := r.isLt
  have equal : s.flags.zf = true ↔ a.toNat = b.toNat := by
    rw [zero]
    rcases width with rfl | rfl <;> omega
  have less : s.flags.sf ≠ s.flags.ofl ↔ a.toInt < b.toInt := by
    have signed : s.flags.sf ≠ s.flags.ofl ↔ ¬ (s.flags.sf = true ↔ s.flags.ofl = true) := by
      cases s.flags.sf <;> cases s.flags.ofl <;> simp
    rw [signed, sign, overflow]
    simp only [Signed, BitVec.toInt_eq_toNat_cond] at *
    rcases width with rfl | rfl
    · split <;> split <;> split <;> omega
    · split <;> split <;> split <;> omega
  have unsigned_eq : a.toNat = b.toNat ↔ a = b := BitVec.toNat_inj
  have signed_eq : a.toNat = b.toNat ↔ a.toInt = b.toInt := unsigned_eq.trans BitVec.toInt_inj.symm
  have clear : ∀ {x : Bool} {c : Prop}, (x = true ↔ c) → (x = false ↔ ¬ c) := fun same => by
    rw [← same, Bool.not_eq_true]
  have nless : s.flags.sf = s.flags.ofl ↔ ¬ a.toInt < b.toInt := by rw [← less, not_not]
  refine ⟨restate jb below, restate jnb ?_, restate jbe ?_, restate jnbe ?_, restate jl less, restate jnl ?_,
    restate jle ?_, restate jnle ?_, restate je (equal.trans unsigned_eq), restate jne ?_⟩
  · rw [clear below]; omega
  · rw [below, equal]; omega
  · rw [clear below, clear equal]; omega
  · rw [nless]; omega
  · rw [less, equal, signed_eq]; omega
  · rw [nless, clear equal, signed_eq]; omega
  · rw [clear equal, unsigned_eq]

/-- Settles O48. -/
theorem jumpsAndCalls : Obligations.JumpsAndCalls := by
  intro s h
  have here := After.refl s
  refine ⟨fun d => ⟨_, rfl, here.jumpNear h _⟩, fun d => ⟨_, rfl, here.jumpNear h _⟩, fun e => ?_,
    fun o g => ⟨_, rfl, here.jumpFar h g o⟩, fun m => ?_, fun d => ⟨_, rfl, (here.push h s.ip).jumpNear h _⟩,
    fun e => ?_,
    fun o g => ⟨_, rfl, (here.push_push h s.segs.cs s.ip).jumpFar h g o⟩, fun m => ?_⟩
  · obtain ⟨value, after⟩ := get16_after s h (s.place e)
    exact ⟨_, rfl, value ▸ after.jumpNear h _⟩
  · obtain ⟨value, after⟩ := readFar_after s h m
    refine ⟨_, rfl, ?_⟩
    rw [value]
    exact after.jumpFar h _ _
  · obtain ⟨value, after⟩ := get16_after s h (s.place e)
    refine ⟨_, rfl, ?_⟩
    rw [value, State.get16_ip]
    exact (after.push h s.ip).jumpNear h _
  · obtain ⟨value, after⟩ := readFar_after s h m
    refine ⟨_, rfl, ?_⟩
    rw [value, State.readFar_ip, State.segReg, State.readFar_segs]
    exact (after.push_push h s.segs.cs s.ip).jumpFar h _ _

/-- Settles O49. -/
theorem returns : Obligations.Returns := by
  intro s h
  obtain ⟨l, ip, cs, popped⟩ := pop16_twice s h
  obtain ⟨-, near⟩ := pop16_after s h
  have far : After (withSp s (s.regs.sp + 4)) s.pop16.2.pop16.2 s.byteAt (Same s.flags) := by
    rw [popped]
    exact ⟨rfl, fun _ => rfl, rfl⟩
  have sp : s.pop16.2.reg16 .sp = s.regs.sp + 2 := by rw [near.frame]; rfl
  have sp' : s.pop16.2.pop16.2.reg16 .sp = s.regs.sp + 4 := by rw [popped]; rfl
  refine ⟨⟨_, rfl, ?_⟩, fun n => ⟨_, rfl, ?_⟩, ⟨_, rfl, ?_⟩, fun n => ⟨_, rfl, ?_⟩⟩
  · rw [ip]
    exact near.jumpNear h _
  · rw [ip, State.dropStack, sp]
    exact (near.setReg16 .sp (s.regs.sp + 2 + n)).jumpNear h _
  · rw [ip, cs]
    exact far.jumpFar h _ _
  · rw [ip, cs, State.dropStack, sp']
    exact (far.setReg16 .sp (s.regs.sp + 4 + n)).jumpFar h _ _

/-! ### Interrupts -/

/-- Settles O52. -/
theorem softwareInterrupts : Obligations.SoftwareInterrupts := by
  intro s h
  have raises : ∀ n, Interrupted s (s.raise n) n s.segs.cs s.ip := fun n => interrupt_interrupted s h n _ _
  exact ⟨fun n => ⟨_, rfl, raises n⟩, ⟨_, rfl, raises 3⟩, fun set => ⟨_, if_pos set, raises 4⟩,
    fun clear => if_neg (by simp [clear])⟩

/-- What `IRET` leaves: the three words of the frame. -/
theorem interruptReturn_after (s : State) (h : s.Quiet) :
    After (jumped (withSp s (s.regs.sp + 6))
        (loadedWord s .ss (s.regs.sp + 2) (s.floats + spentWord s .ss s.regs.sp))
        (loadedWord s .ss s.regs.sp s.floats)) s.interruptReturn s.byteAt
      (Same (Flags.ofImage (loadedWord s .ss (s.regs.sp + 4)
        (s.floats + spentWord s .ss s.regs.sp + spentWord s .ss (s.regs.sp + 2))))) := by
  obtain ⟨l, ip, cs, popped⟩ := pop16_twice s h
  obtain ⟨flags, third⟩ := pop16_after s.pop16.2.pop16.2 (by rw [popped]; exact h)
  have image : s.pop16.2.pop16.2.pop16.1 = loadedWord s .ss (s.regs.sp + 4)
      (s.floats + spentWord s .ss s.regs.sp + spentWord s .ss (s.regs.sp + 2)) := by
    rw [flags, popped]
    rfl
  have below : After (withSp s (s.regs.sp + 6)) s.pop16.2.pop16.2.pop16.2 s.byteAt (Same s.flags) := by
    rw [popped] at third ⊢
    have sp : (withSp s (s.regs.sp + 4)).regs.sp + 2 = s.regs.sp + 6 := by
      show s.regs.sp + 4 + 2 = s.regs.sp + 6
      bv_omega
    rw [show ({ withSp s (s.regs.sp + 4) with
      floats := s.floats + spentWord s .ss s.regs.sp + spentWord s .ss (s.regs.sp + 2), waits := 0, log := l } :
        State).regs.sp + 2 = s.regs.sp + 6 from sp] at third
    exact ⟨third.frame, third.memory, third.status⟩
  unfold State.interruptReturn
  dsimp only
  rw [ip, cs, image]
  exact (below.setFlags (Q := Same (Flags.ofImage (loadedWord s .ss (s.regs.sp + 4)
    (s.floats + spentWord s .ss s.regs.sp + spentWord s .ss (s.regs.sp + 2))))) _ rfl).jumpFar h _ _

/-- Settles O53. -/
theorem interruptReturn : Obligations.InterruptReturn := fun s h =>
  ⟨_, rfl, interruptReturn_after s h⟩

end Sys2Proof

/-! ## Data transfer

Moves, loads of segment registers, the stack, exchanges and the flags as words. -/

namespace Sys2Proof.Claims

open Machine

variable {b t : State} {bytes : Addr → Byte} {P : Flags → Prop}

/-! ### Memory written -/

theorem After.writeMem8 (a : After b t bytes P) (h : b.Quiet) (g : SegReg) (off : Word) (v : Byte) :
    After b (t.writeMem8 g off v) (poke b bytes (b.addr g off) v) P := by
  obtain ⟨m', l', same⟩ := t.writeMem8_eq (a.quiet h) g off v
  have poked := byteAt_writeMem8_poke t (a.quiet h) g off v
  obtain ⟨f, m, d, n, w, l, rfl, memory, status⟩ := a.fields
  have bytes_eq : State.byteAt { b with flags := f, mem := m, draws := d, floats := n, waits := w, log := l } = bytes :=
    funext memory
  refine ⟨by rw [same], fun x => (poked x).trans ?_, by rw [same]; exact status⟩
  rw [bytes_eq]
  rfl

theorem After.writeMem16 (a : After b t bytes P) (h : b.Quiet) (g : SegReg) (off v : Word) :
    After b (t.writeMem16 g off v) (pokeWord b bytes g off v) P := by
  obtain ⟨m', l', same⟩ := t.writeMem16_eq (a.quiet h) g off v
  have poked := byteAt_writeMem16_poke t (a.quiet h) g off v
  obtain ⟨f, m, d, n, w, l, rfl, memory, status⟩ := a.fields
  have bytes_eq : State.byteAt { b with flags := f, mem := m, draws := d, floats := n, waits := w, log := l } = bytes :=
    funext memory
  refine ⟨by rw [same], fun x => (poked x).trans ?_, by rw [same]; exact status⟩
  rw [bytes_eq]
  rfl

/-! ### Flags as a word -/

/-- Each flag at its bit of the image (R33). -/
theorem image_bits (f : Flags) :
    f.image.getLsbD 0 = f.cf ∧ f.image.getLsbD 2 = f.pf ∧ f.image.getLsbD 4 = f.af ∧ f.image.getLsbD 6 = f.zf ∧
      f.image.getLsbD 7 = f.sf ∧ f.image.getLsbD 8 = f.tf ∧ f.image.getLsbD 9 = f.ifl ∧ f.image.getLsbD 10 = f.df ∧
      f.image.getLsbD 11 = f.ofl := by
  obtain ⟨cf, pf, af, zf, sf, tf, ifl, df, ofl⟩ := f
  simp only [Flags.image]
  revert cf pf af zf sf tf ifl df ofl
  decide

/-- What is stored of the flags is read back. -/
theorem ofImage_image (f : Flags) : Flags.ofImage f.image = f := by
  obtain ⟨cf, pf, af, zf, sf, tf, ifl, df, ofl⟩ := image_bits f
  unfold Flags.ofImage
  rw [cf, pf, af, zf, sf, tf, ifl, df, ofl]

/-- The five flags `LAHF` moves, each at its bit (R319). -/
theorem low8_bits (f : Flags) (b5 b3 b1 : Bool) :
    (f.low8 b5 b3 b1).getLsbD 7 = f.sf ∧ (f.low8 b5 b3 b1).getLsbD 6 = f.zf ∧ (f.low8 b5 b3 b1).getLsbD 4 = f.af ∧
      (f.low8 b5 b3 b1).getLsbD 2 = f.pf ∧ (f.low8 b5 b3 b1).getLsbD 0 = f.cf := by
  unfold Flags.low8
  generalize f.sf = sf, f.zf = zf, f.af = af, f.pf = pf, f.cf = cf
  revert sf zf af pf cf b5 b3 b1
  decide

end Sys2Proof.Claims

namespace Sys2Proof

open Machine Claims

/-- Settles O38. -/
theorem moves : Obligations.Moves := fun s h =>
  ⟨fun e _ => stores8_of_put s h _ e _ rfl, fun e _ => stores16_of_put s h _ e _ rfl,
    fun r e => stores8_of_get s h _ r (s.place e) rfl, fun r e => stores16_of_get s h _ r (s.place e) rfl,
    fun e _ => stores16_of_put s h _ e _ rfl, fun a => stores8_of_get s h _ .al (.mem (sourceSeg s) a) rfl,
    fun a => stores16_of_get s h _ .ax (.mem (sourceSeg s) a) rfl,
    fun a => stores8_of_put s h _ (.mem (.direct a)) _ rfl, fun a => stores16_of_put s h _ (.mem (.direct a)) _ rfl,
    fun r v => stores8_of_put s h _ (.reg r) v rfl, fun r v => stores16_of_put s h _ (.reg r) v rfl,
    fun e v => stores8_of_put s h _ e v rfl, fun e v => stores16_of_put s h _ e v rfl⟩

/-- Settles O39. -/
theorem segmentLoads : Obligations.SegmentLoads := by
  intro s h
  constructor
  · intro g c e listed
    obtain ⟨value, after⟩ := get16_after s h (s.place e)
    have loads : ∀ g, After { s with segs := s.segs.put g (operand16 s (s.place e)), shadow := .all }
        ((s.get16 (s.place e)).2.loadSeg g (s.get16 (s.place e)).1) s.byteAt (Same s.flags) :=
      fun g => value ▸ after.loadSeg g _
    simp only [List.mem_cons, Prod.mk.injEq, List.not_mem_nil, or_false] at listed
    rcases listed with ⟨rfl, rfl⟩ | ⟨rfl, rfl⟩ | ⟨rfl, rfl⟩
    all_goals exact ⟨_, rfl, loads _⟩
  · intro g c r m listed
    obtain ⟨value, after⟩ := readFar_after s h m
    have loads : ∀ g, After { s with regs := s.regs.put16 r (farOffset s m), segs := s.segs.put g (farSelector s m) }
        (((s.readFar m).2.setReg16 r (s.readFar m).1.1).setSegReg g (s.readFar m).1.2) s.byteAt (Same s.flags) := by
      intro g
      rw [value]
      exact (after.setReg16 r _).setSegReg g _
    simp only [List.mem_cons, Prod.mk.injEq, List.not_mem_nil, or_false] at listed
    rcases listed with ⟨rfl, rfl⟩ | ⟨rfl, rfl⟩
    all_goals exact ⟨_, rfl, loads _⟩

/-- Settles O40. -/
theorem pushes : Obligations.Pushes := by
  intro s h
  have here := After.refl s
  have register : ∀ r, After (withSp s (s.regs.sp - 2)) (s.pushOperand (.reg r))
      (pokeWord s s.byteAt .ss (s.regs.sp - 2) (if r = .sp then s.regs.sp - 2 else s.reg16 r)) (Same s.flags) := by
    intro r
    by_cases sp : r = .sp
    · rw [State.pushOperand, if_pos (by rw [sp]), if_pos sp]
      exact here.push h _
    · rw [State.pushOperand, if_neg (by simpa using sp), if_neg sp]
      exact here.push h _
  refine ⟨⟨_, rfl, here.push h _⟩, ⟨_, rfl, here.push h _⟩, ⟨_, rfl, here.push h _⟩, ⟨_, rfl, here.push h _⟩,
    fun r => ⟨_, rfl, register r⟩, fun r => ⟨_, rfl, register r⟩, fun m => ⟨_, rfl, ?_⟩⟩
  obtain ⟨value, after⟩ := get16_after s h (s.place (.mem m))
  rw [State.pushOperand, if_neg (by simp [State.place])]
  exact value ▸ after.push h _

/-- Settles O41. -/
theorem pops : Obligations.Pops := by
  intro s h
  obtain ⟨value, after⟩ := pop16_after s h
  have register : ∀ r, After { s with
        regs := (s.regs.put16 .sp (s.regs.sp + 2)).put16 r (loadedWord s .ss s.regs.sp s.floats) }
      (s.pop16.2.setReg16 r s.pop16.1) s.byteAt (Same s.flags) := fun r => value ▸ after.setReg16 r _
  have segment : ∀ g, After { s with
        regs := s.regs.put16 .sp (s.regs.sp + 2), segs := s.segs.put g (loadedWord s .ss s.regs.sp s.floats),
        shadow := .all } (s.pop16.2.loadSeg g s.pop16.1) s.byteAt (Same s.flags) := fun g => value ▸ after.loadSeg g _
  refine ⟨fun r => ⟨_, rfl, register r⟩, fun r => ⟨_, rfl, register r⟩, fun m => ⟨_, rfl, ?_⟩, fun g i listed => ?_⟩
  · exact value ▸ after.writeMem16 h (s.segOf m) (s.ea m) _
  · simp only [List.mem_cons, Prod.mk.injEq, List.not_mem_nil, or_false] at listed
    rcases listed with ⟨rfl, rfl⟩ | ⟨rfl, rfl⟩ | ⟨rfl, rfl⟩
    all_goals exact ⟨_, rfl, segment _⟩

/-- Settles O42. -/
theorem exchangesAndTables : Obligations.ExchangesAndTables := by
  intro s h
  refine ⟨fun r r' => ⟨_, rfl, rfl⟩, fun r m => ⟨_, rfl, ?_⟩, fun r r' => ⟨_, rfl, rfl⟩, fun r m => ⟨_, rfl, ?_⟩,
    fun r => ⟨_, rfl, rfl⟩, ⟨_, rfl, ?_⟩, fun r m => rfl⟩
  · obtain ⟨value, after⟩ := get8_after s h (s.place (.mem m))
    exact value ▸ (after.writeMem8 h (s.segOf m) (s.ea m) (s.reg8 r)).setReg8 r _
  · obtain ⟨value, after⟩ := get16_after s h (s.place (.mem m))
    exact value ▸ (after.writeMem16 h (s.segOf m) (s.ea m) (s.reg16 r)).setReg16 r _
  · obtain ⟨value, after⟩ := get8_after s h (.mem (sourceSeg s) (s.regs.bx + (s.reg8 .al).setWidth 16))
    exact value ▸ after.setReg8 .al _

/-- Settles O43. -/
theorem flagTransfers : Obligations.FlagTransfers := by
  intro s h
  refine ⟨⟨_, rfl, ?_⟩, rfl, ⟨_, rfl, s.flags.image, ?_⟩, ⟨_, rfl, ?_⟩⟩
  · obtain ⟨sf, zf, af, pf, cf⟩ := low8_bits s.flags s.drawBit.1 s.drawBit.2.drawBit.1 s.drawBit.2.drawBit.2.drawBit.1
    exact ⟨_, sf, zf, af, pf, cf, rfl, fun _ => rfl, rfl⟩
  · obtain ⟨cf, pf, af, zf, sf, tf, ifl, df, ofl⟩ := image_bits s.flags
    exact ⟨cf, pf, af, zf, sf, tf, ifl, df, ofl, (After.refl s).push h _⟩
  · obtain ⟨value, after⟩ := pop16_after s h
    rw [value]
    exact after.setFlags _ rfl

end Sys2Proof

/-! ## Accesses and the bus

Bytes and words of either address space: what they read, what they write, and in which cycles (R121 to R133). -/

namespace Sys2Proof.Machine

variable (s : State)

/-! ### One cycle's effect -/

theorem State.input_eq (sp : Space) (a : Addr) : ∃ n d, (s.input sp a).2 = { s with floats := n, devices := d } := by
  cases sp with
  | memory =>
    obtain ⟨n, same⟩ := s.readByte_eq a
    exact ⟨n, s.devices, same⟩
  | io => exact s.readPort_eq a.toNat

theorem State.output_eq (sp : Space) (a : Addr) (v : Byte) :
    ∃ m d, s.output sp a v = { s with mem := m, devices := d } := by
  cases sp with
  | memory =>
    obtain ⟨m, same⟩ := s.writeByte_eq a v
    exact ⟨m, s.devices, same⟩
  | io => exact ⟨s.mem, _, rfl⟩

/-- What a cycle reads has nothing to do with the log. -/
theorem State.input_with (sp : Space) (a : Addr) (l : Log) :
    ({ s with waits := 0, log := l } : State).input sp a =
      ((s.input sp a).1, { (s.input sp a).2 with waits := 0, log := l }) := by
  have kind : ({ s with waits := 0, log := l } : State).kindAt a = s.kindAt a := rfl
  cases sp with
  | memory =>
    simp only [State.input, State.readByte, kind]
    split <;> rfl
  | io =>
    simp only [State.input, State.readPort]
    split <;> rfl

theorem State.output_with (sp : Space) (a : Addr) (v : Byte) (l : Log) :
    ({ s with waits := 0, log := l } : State).output sp a v = { s.output sp a v with waits := 0, log := l } := by
  cases sp with
  | memory => exact s.writeByte_with a v l
  | io => rfl

/-! ### Cycles on the bus -/

/-- The step's log with cycles entered. -/
def State.logged (cs : List BusCycle) : Log := { s.log with cycles := s.log.cycles ++ cs }

/-- A cycle of an access on the bus, wait states given (R99, R121). -/
def State.access (k : BusKind) (a : Addr) (d : Lanes) (g : Option SegReg) (waits : Nat) : BusCycle :=
  Claims.accessCycle s k a d.high.isNone d.low d.high g waits

/-- The cycles of a word at an odd address (R130). -/
def State.twoCycles (k : BusKind) (lo hi : Addr) (v0 v1 : Byte) (g : Option SegReg) : List BusCycle :=
  [s.access k lo (Lanes.byte lo v0) g s.waits, s.access k hi (Lanes.byte hi v1) g 0]

theorem State.busCycle_access {k : BusKind} (moves : k ≠ .inta) (a : Addr) (d : Lanes) (g : Option SegReg) :
    s.busCycle k (some a) g d = s.access k a d g s.waits := by
  simp [State.busCycle, State.access, Claims.accessCycle, moves]

theorem Space.readKind_moves (sp : Space) : sp.readKind ≠ .inta := by cases sp <;> decide

theorem Space.writeKind_moves (sp : Space) : sp.writeKind ≠ .inta := by cases sp <;> decide

theorem State.readOne_ran (h : s.Quiet) (pt : Point) (sp : Space) (a : Addr) (g : Option SegReg) :
    s.readOne pt sp a g = ((s.input sp a).1, { (s.input sp a).2 with
      waits := 0, log := s.logged [s.access sp.readKind a (Lanes.byte a (s.input sp a).1) g s.waits] }) := by
  obtain ⟨n, d, same⟩ := s.input_eq sp a
  simp only [State.readOne, s.cycle_of_quiet h, Lanes.byteOf_byte, s.busCycle_access sp.readKind_moves]
  rw [same]
  rfl

theorem State.writeOne_ran (h : s.Quiet) (pt : Point) (sp : Space) (a : Addr) (v : Byte) (g : Option SegReg) :
    s.writeOne pt sp a v g = { s.output sp a v with
      waits := 0, log := s.logged [s.access sp.writeKind a (Lanes.byte a v) g s.waits] } := by
  obtain ⟨m, d, same⟩ := s.output_eq sp a v
  simp only [State.writeOne, s.cycle_of_quiet h, s.busCycle_access sp.writeKind_moves]
  rw [same]
  rfl

theorem State.readPair_even (h : s.Quiet) (sp : Space) {lo : Addr} (even : lo.getLsbD 0 = false) (hi : Addr)
    (g : Option SegReg) : s.readPair sp lo hi g = ((s.inputWord sp lo hi).1, { (s.inputWord sp lo hi).2 with
      waits := 0, log := s.logged [s.access sp.readKind lo (Lanes.word (s.inputWord sp lo hi).1) g s.waits] }) := by
  have moved : ∃ n d, (s.inputWord sp lo hi).2 = { s with floats := n, devices := d } := by
    obtain ⟨n, d, first⟩ := s.input_eq sp lo
    obtain ⟨n', d', second⟩ := (s.input sp lo).2.input_eq sp hi
    exact ⟨n', d', by rw [State.inputWord, second, first]⟩
  obtain ⟨n, d, same⟩ := moved
  simp only [State.readPair, even, s.cycle_of_quiet h, Lanes.toWord_word, s.busCycle_access sp.readKind_moves]
  rw [same]
  rfl

theorem State.readPair_odd (h : s.Quiet) (sp : Space) {lo : Addr} (odd : lo.getLsbD 0 = true) (hi : Addr)
    (g : Option SegReg) : s.readPair sp lo hi g = ((s.inputWord sp lo hi).1, { (s.inputWord sp lo hi).2 with
      waits := 0
      log := s.logged (s.twoCycles sp.readKind lo hi (lowByte (s.inputWord sp lo hi).1)
        (highByte (s.inputWord sp lo hi).1) g) }) := by
  obtain ⟨n, d, first⟩ := s.input_eq sp lo
  have second := State.readOne_ran
    { s with floats := n, devices := d, waits := 0,
             log := s.logged [s.access sp.readKind lo (Lanes.byte lo (s.input sp lo).1) g s.waits] }
    h .insideWord sp hi g
  have input := State.input_with { s with floats := n, devices := d } sp hi
    (s.logged [s.access sp.readKind lo (Lanes.byte lo (s.input sp lo).1) g s.waits])
  simp only at second input
  rw [input] at second
  simp only [State.readPair, odd, if_true, s.readOne_ran h]
  rw [first, second]
  simp only [State.inputWord, first, lowByte_wordOf, highByte_wordOf, State.twoCycles, State.logged, List.append_assoc,
    List.singleton_append]
  rfl

theorem State.writePair_even (h : s.Quiet) (sp : Space) {lo : Addr} (even : lo.getLsbD 0 = false) (hi : Addr) (v : Word)
    (g : Option SegReg) : s.writePair sp lo hi v g = { s.outputWord sp lo hi v with
      waits := 0, log := s.logged [s.access sp.writeKind lo (Lanes.word v) g s.waits] } := by
  obtain ⟨m, d, first⟩ := s.output_eq sp lo (lowByte v)
  obtain ⟨m', d', second⟩ := State.output_eq { s with mem := m, devices := d } sp hi (highByte v)
  simp only [State.writePair, even, s.cycle_of_quiet h, State.outputWord, s.busCycle_access sp.writeKind_moves]
  rw [first, second]
  rfl

theorem State.writePair_odd (h : s.Quiet) (sp : Space) {lo : Addr} (odd : lo.getLsbD 0 = true) (hi : Addr) (v : Word)
    (g : Option SegReg) : s.writePair sp lo hi v g = { s.outputWord sp lo hi v with
      waits := 0, log := s.logged (s.twoCycles sp.writeKind lo hi (lowByte v) (highByte v) g) } := by
  obtain ⟨m, d, first⟩ := s.output_eq sp lo (lowByte v)
  have second := State.writeOne_ran
    { s with mem := m, devices := d, waits := 0,
             log := s.logged [s.access sp.writeKind lo (Lanes.byte lo (lowByte v)) g s.waits] }
    h .insideWord sp hi (highByte v) g
  have output := State.output_with { s with mem := m, devices := d } sp hi (highByte v)
    (s.logged [s.access sp.writeKind lo (Lanes.byte lo (lowByte v)) g s.waits])
  simp only at second output
  rw [output] at second
  simp only [State.writePair, odd, if_true, s.writeOne_ran h]
  rw [first, second]
  simp only [State.outputWord, first, State.twoCycles, State.logged, List.append_assoc, List.singleton_append]
  rfl

/-- A word read, in one cycle or in two. -/
theorem State.readPair_ran (h : s.Quiet) (sp : Space) (lo hi : Addr) (g : Option SegReg) :
    ∃ l, s.readPair sp lo hi g = ((s.inputWord sp lo hi).1,
      { (s.inputWord sp lo hi).2 with waits := 0, log := l }) := by
  cases parity : lo.getLsbD 0 with
  | false => exact ⟨_, s.readPair_even h sp parity hi g⟩
  | true => exact ⟨_, s.readPair_odd h sp parity hi g⟩

/-- A word written, in one cycle or in two. -/
theorem State.writePair_ran (h : s.Quiet) (sp : Space) (lo hi : Addr) (v : Word) (g : Option SegReg) :
    ∃ l, s.writePair sp lo hi v g = { s.outputWord sp lo hi v with waits := 0, log := l } := by
  cases parity : lo.getLsbD 0 with
  | false => exact ⟨_, s.writePair_even h sp parity hi v g⟩
  | true => exact ⟨_, s.writePair_odd h sp parity hi v g⟩

/-! ### Parity of an address -/

theorem bit0_of_even {a : Addr} (even : a.toNat % 2 = 0) : a.getLsbD 0 = false := by
  simp [BitVec.getLsbD, Nat.testBit_zero, even]

theorem bit0_of_odd {a : Addr} (odd : a.toNat % 2 = 1) : a.getLsbD 0 = true := by
  simp [BitVec.getLsbD, Nat.testBit_zero, odd]

/-- The address after an odd one is even, in a segment of 2^16 bytes and at the ports. -/
theorem State.addr_next_even {g : SegReg} {off : Word} (odd : (s.addr g off).toNat % 2 = 1) :
    (s.addr g (off + 1)).toNat % 2 = 0 := by
  unfold State.addr phys at *
  generalize s.segReg g = w at *
  bv_omega

/-- The two bytes of a word stand apart. -/
theorem State.addr_ne_next (g : SegReg) (off : Word) : s.addr g off ≠ s.addr g (off + 1) := by
  unfold State.addr phys
  generalize s.segReg g = w
  bv_omega

end Sys2Proof.Machine

namespace Sys2Proof.Claims

open Machine

variable (s : State)

/-! ### The cycles of an access, in the words of the statements -/

theorem access_byte_even (k : BusKind) {a : Addr} (even : a.toNat % 2 = 0) (v : Byte) (g : Option SegReg) (w : Nat) :
    s.access k a (Lanes.byte a v) g w = accessCycle s k a true (some v) none g w := by
  rw [State.access, Lanes.byte, bit0_of_even even]
  rfl

theorem access_byte_odd (k : BusKind) {a : Addr} (odd : a.toNat % 2 = 1) (v : Byte) (g : Option SegReg) (w : Nat) :
    s.access k a (Lanes.byte a v) g w = accessCycle s k a false none (some v) g w := by
  rw [State.access, Lanes.byte, bit0_of_odd odd]
  rfl

/-- The cycles of byte and word accesses at an even address of either space. -/
theorem cycles_even (h : s.Quiet) (sp : Space) {lo : Addr} (even : lo.toNat % 2 = 0) (hi : Addr) (g : Option SegReg)
    (b : Byte) (v : Word) :
    (s.readOne .between sp lo g).2.log.cycles = s.log.cycles ++
        [accessCycle s sp.readKind lo true (some (s.readOne .between sp lo g).1) none g s.waits] ∧
      (s.writeOne .between sp lo b g).log.cycles = s.log.cycles ++
        [accessCycle s sp.writeKind lo true (some b) none g s.waits] ∧
      (s.readPair sp lo hi g).2.log.cycles = s.log.cycles ++
        [accessCycle s sp.readKind lo false (some (lowByte (s.readPair sp lo hi g).1))
          (some (highByte (s.readPair sp lo hi g).1)) g s.waits] ∧
      (s.writePair sp lo hi v g).log.cycles = s.log.cycles ++
        [accessCycle s sp.writeKind lo false (some (lowByte v)) (some (highByte v)) g s.waits] := by
  have bit := bit0_of_even even
  refine ⟨?_, ?_, ?_, ?_⟩
  · rw [s.readOne_ran h, access_byte_even s _ even]
    rfl
  · rw [s.writeOne_ran h, access_byte_even s _ even]
    rfl
  · rw [s.readPair_even h sp bit hi g]
    rfl
  · rw [s.writePair_even h sp bit hi v g]
    rfl

/-- The cycles of a byte access at an odd address of either space. -/
theorem byteCycles_odd (h : s.Quiet) (sp : Space) {lo : Addr} (odd : lo.toNat % 2 = 1) (g : Option SegReg) (b : Byte) :
    (s.readOne .between sp lo g).2.log.cycles = s.log.cycles ++
        [accessCycle s sp.readKind lo false none (some (s.readOne .between sp lo g).1) g s.waits] ∧
      (s.writeOne .between sp lo b g).log.cycles = s.log.cycles ++
        [accessCycle s sp.writeKind lo false none (some b) g s.waits] := by
  constructor
  · rw [s.readOne_ran h, access_byte_odd s _ odd]
    rfl
  · rw [s.writeOne_ran h, access_byte_odd s _ odd]
    rfl

/-- The cycles of a word access at an odd address of either space. -/
theorem wordCycles_odd (h : s.Quiet) (sp : Space) {lo hi : Addr} (odd : lo.toNat % 2 = 1) (even : hi.toNat % 2 = 0)
    (g : Option SegReg) (v : Word) :
    (s.readPair sp lo hi g).2.log.cycles = s.log.cycles ++
        [accessCycle s sp.readKind lo false none (some (lowByte (s.readPair sp lo hi g).1)) g s.waits,
          accessCycle s sp.readKind hi true (some (highByte (s.readPair sp lo hi g).1)) none g 0] ∧
      (s.writePair sp lo hi v g).log.cycles = s.log.cycles ++
        [accessCycle s sp.writeKind lo false none (some (lowByte v)) g s.waits,
          accessCycle s sp.writeKind hi true (some (highByte v)) none g 0] := by
  have bit := bit0_of_odd odd
  constructor
  · rw [s.readPair_odd h sp bit hi g, State.twoCycles, access_byte_odd s _ odd, access_byte_even s _ even]
    rfl
  · rw [s.writePair_odd h sp bit hi v g, State.twoCycles, access_byte_odd s _ odd, access_byte_even s _ even]
    rfl

/-! ### Memory that is there -/

theorem loaded_ram {s : State} {a : Addr} (ram : s.kindAt a = .ram) (n : Nat) : loaded s a n = s.byteAt a := by
  rw [loaded, if_neg (by rw [ram]; decide)]

/-! ### Ports -/

/-- A byte read from a port: what a device answers, or a free byte, and the devices after it. -/
theorem readPort_after (p : Nat) : ∃ n d, (s.readPort p).2 = { s with floats := n, devices := d } ∧
    (∀ r, Device.take p s.devices = some r → (s.readPort p).1 = r.1 ∧ d = r.2) ∧
    (Device.take p s.devices = none → d = s.devices) := by
  obtain ⟨n, d, same⟩ := s.readPort_eq p
  obtain ⟨answers, free⟩ := s.readPort_of_take p
  rw [same] at answers free
  exact ⟨n, d, same, answers, free⟩

/-- The port after another, in the bus's 20 bits. -/
theorem next_port_toNat {p : Word} (inside : p ≠ 0xFFFF) : (portAddr (p + 1)).toNat = p.toNat + 1 := by
  have below : p.toNat ≠ 0xFFFF := fun top => inside (BitVec.eq_of_toNat_eq top)
  rw [portAddr_toNat]
  bv_omega

/-- A word read from a port and the next one, byte after byte. -/
theorem ioRead16_after (h : s.Quiet) {p : Word} (inside : p ≠ 0xFFFF) : ∃ lo hi n d d' l,
    s.ioRead16 p = (hi ++ lo, { s with floats := n, devices := d', waits := 0, log := l }) ∧
    (∀ r, Device.take p.toNat s.devices = some r → lo = r.1 ∧ d = r.2) ∧
    (Device.take p.toNat s.devices = none → d = s.devices) ∧
    (∀ r, Device.take (p.toNat + 1) d = some r → hi = r.1 ∧ d' = r.2) ∧
    (Device.take (p.toNat + 1) d = none → d' = d) := by
  obtain ⟨l, ran⟩ := s.readPair_ran h .io (portAddr p) (portAddr (p + 1)) none
  obtain ⟨n, d, first, answers, free⟩ := readPort_after s p.toNat
  obtain ⟨n', d', second, answers', free'⟩ := readPort_after { s with floats := n, devices := d } (p.toNat + 1)
  refine ⟨_, _, n', d, d', l, ran.trans ?_, answers, free, answers', free'⟩
  simp only [State.inputWord, State.input, portAddr_toNat p, next_port_toNat inside]
  rw [first, second]
  rfl

/-- A word sent to a port and the next one, byte after byte. -/
theorem ioWrite16_after (h : s.Quiet) {p : Word} (inside : p ≠ 0xFFFF) (v : Word) : ∃ l, s.ioWrite16 p v = { s with
    devices := Device.give (p.toNat + 1) (highByte v) (Device.give p.toNat (lowByte v) s.devices), waits := 0,
    log := l } := by
  obtain ⟨l, ran⟩ := s.writePair_ran h .io (portAddr p) (portAddr (p + 1)) v none
  refine ⟨l, ran.trans ?_⟩
  simp only [State.outputWord, State.output, portAddr_toNat p, next_port_toNat inside]
  rfl

/-- A byte read from a port. -/
theorem ioRead8_after (h : s.Quiet) (p : Word) : ∃ v n d l,
    s.ioRead8 p = (v, { s with floats := n, devices := d, waits := 0, log := l }) ∧
    (∀ r, Device.take p.toNat s.devices = some r → v = r.1 ∧ d = r.2) ∧
    (Device.take p.toNat s.devices = none → d = s.devices) := by
  obtain ⟨n, d, first, answers, free⟩ := readPort_after s p.toNat
  have ran := s.readOne_ran h .between .io (portAddr p) none
  rw [show s.input .io (portAddr p) = s.readPort p.toNat by rw [State.input, portAddr_toNat], first] at ran
  exact ⟨_, n, d, _, ran, answers, free⟩

/-- A byte sent to a port. -/
theorem ioWrite8_after (h : s.Quiet) (p : Word) (v : Byte) :
    ∃ l, s.ioWrite8 p v = { s with devices := Device.give p.toNat v s.devices, waits := 0, log := l } := by
  have ran := s.writeOne_ran h .between .io (portAddr p) v none
  rw [show s.output .io (portAddr p) v = s.writePort p.toNat v by rw [State.output, portAddr_toNat]] at ran
  exact ⟨_, ran⟩

end Sys2Proof.Claims

namespace Sys2Proof

open Machine Claims

/-- Settles O17. -/
theorem cyclesPerAccess : Obligations.CyclesPerAccess := by
  intro s g off p v b h
  have evenPort : p.toNat % 2 = 0 → (portAddr p).toNat % 2 = 0 := fun even => by rw [portAddr_toNat]; exact even
  have oddPort : p.toNat % 2 = 1 → (portAddr p).toNat % 2 = 1 := fun odd => by rw [portAddr_toNat]; exact odd
  refine ⟨fun even => cycles_even s h .memory even _ _ b v, fun odd => ?_,
    fun even => cycles_even s h .io (evenPort even) _ none b v, fun odd => ?_⟩
  · obtain ⟨read, write⟩ := byteCycles_odd s h .memory odd (some g) b
    obtain ⟨readWord, writeWord⟩ := wordCycles_odd s h .memory odd (s.addr_next_even odd) (some g) v
    exact ⟨read, write, readWord, writeWord⟩
  · obtain ⟨read, write⟩ := byteCycles_odd s h .io (oddPort odd) none b
    refine ⟨read, write, fun _ => wordCycles_odd s h .io (oddPort odd) ?_ none v⟩
    rw [portAddr_toNat]
    bv_omega

/-- Settles O16. -/
theorem wordsReadBack : Obligations.WordsReadBack := by
  intro s g off v h low high
  have bytes : ∀ a, (s.writeMem16 g off v).byteAt a =
      if a = s.addr g (off + 1) then highByte v else if a = s.addr g off then lowByte v else s.byteAt a := by
    intro a
    simp only [s.byteAt_writeMem16 h, low, high, and_true]
  have first : (s.writeMem16 g off v).byteAt (s.addr g off) = lowByte v := by
    rw [bytes, if_neg (s.addr_ne_next g off), if_pos rfl]
  have second : (s.writeMem16 g off v).byteAt (s.addr g (off + 1)) = highByte v := by
    rw [bytes, if_pos rfl]
  obtain ⟨m, l, wrote⟩ := s.writeMem16_eq h g off v
  rw [wrote] at first second
  have value : ∀ n, loaded { s with mem := m, waits := 0, log := l } (s.addr g off) n = lowByte v := fun n =>
    (loaded_ram (s := { s with mem := m, waits := 0, log := l }) low n).trans first
  have value' : ∀ n, loaded { s with mem := m, waits := 0, log := l } (s.addr g (off + 1)) n = highByte v := fun n =>
    (loaded_ram (s := { s with mem := m, waits := 0, log := l }) high n).trans second
  obtain ⟨l0, word⟩ := readMem16_loads { s with mem := m, waits := 0, log := l } h g off
  obtain ⟨l1, byte⟩ := readMem8_loads { s with mem := m, waits := 0, log := l } h g off
  obtain ⟨l2, byte'⟩ := readMem8_loads { s with mem := m, waits := 0, log := l } h g (off + 1)
  refine ⟨bytes, ?_, ?_, ?_⟩
  · rw [wrote, word]
    show loaded _ (s.addr g (off + 1)) _ ++ loaded _ (s.addr g off) _ = v
    rw [value, value']
    exact wordOf_bytes v
  · rw [wrote, byte]
    exact value _
  · rw [wrote, byte']
    exact value' _

/-- Settles O44. -/
theorem ports : Obligations.Ports := by
  intro s h into8 into16 out8 out16
  have reads8 : ∀ p : Word, into8 p.toNat ((s.ioRead8 p).2.setReg8 .al (s.ioRead8 p).1) := fun p => by
    obtain ⟨v, n, d, l, ran, answers, free⟩ := ioRead8_after s h p
    rw [ran]
    exact ⟨v, d, answers, free, rfl, fun _ => rfl, rfl⟩
  have reads16 : ∀ p : Word, p ≠ 0xFFFF → into16 p.toNat ((s.ioRead16 p).2.setReg16 .ax (s.ioRead16 p).1) :=
    fun p inside => by
      obtain ⟨lo, hi, n, d, d', l, ran, answers, free, answers', free'⟩ := ioRead16_after s h inside
      rw [ran]
      exact ⟨lo, hi, d, d', answers, free, answers', free', rfl, fun _ => rfl, rfl⟩
  have writes8 : ∀ p : Word, out8 p.toNat (s.ioWrite8 p (s.reg8 .al)) := fun p => by
    obtain ⟨l, ran⟩ := ioWrite8_after s h p (s.reg8 .al)
    rw [ran]
    exact ⟨rfl, fun _ => rfl, rfl⟩
  have writes16 : ∀ p : Word, p ≠ 0xFFFF → out16 p.toNat (s.ioWrite16 p (s.reg16 .ax)) := fun p inside => by
    obtain ⟨l, ran⟩ := ioWrite16_after s h inside (s.reg16 .ax)
    rw [ran]
    exact ⟨rfl, fun _ => rfl, rfl⟩
  have wide : ∀ p : Byte, (p.setWidth 16).toNat = p.toNat ∧ p.setWidth 16 ≠ (0xFFFF : Word) := fun p => by bv_omega
  refine ⟨fun p => ⟨⟨_, rfl, ?_⟩, ⟨_, rfl, ?_⟩, ⟨_, rfl, ?_⟩, ⟨_, rfl, ?_⟩⟩, ⟨_, rfl, reads8 _⟩, ⟨_, rfl, writes8 _⟩,
    fun inside => ⟨⟨_, if_neg inside, reads16 _ inside⟩, ⟨_, if_neg inside, writes16 _ inside⟩⟩⟩
  · exact (wide p).1 ▸ reads8 (p.setWidth 16)
  · exact (wide p).1 ▸ reads16 (p.setWidth 16) (wide p).2
  · exact (wide p).1 ▸ writes8 (p.setWidth 16)
  · exact (wide p).1 ▸ writes16 (p.setWidth 16) (wide p).2

/-- Settles O60. -/
theorem waitHaltEscape : Obligations.WaitHaltEscape := by
  intro s h
  refine ⟨fun low => ?_, fun high => ?_, ?_, fun x r => rfl, fun x m => ⟨_, rfl, ?_, ?_⟩⟩
  · show execWait s = _
    rw [execWait, low]
    rfl
  · show execWait s = _
    rw [execWait, high]
    rfl
  · show execHlt s = _
    rw [execHlt, State.haltCycle, s.cycle_of_quiet h]
    rfl
  · obtain ⟨l, read⟩ := readMem16_loads s h (s.segOf m) (s.ea m)
    rw [read]
    exact (After.refl s).read _ _ _
  · rcases Nat.mod_two_eq_zero_or_one (s.addr (s.segOf m) (s.ea m)).toNat with even | odd
    · obtain ⟨-, -, read, -⟩ := cycles_even s h .memory even (s.addr (s.segOf m) (s.ea m + 1)) (some (s.segOf m)) 0 0
      refine ⟨_, read, by simp, fun c one => ?_⟩
      obtain rfl := List.mem_singleton.mp one
      exact ⟨rfl, .inl rfl⟩
    · obtain ⟨read, -⟩ := wordCycles_odd s h .memory odd (s.addr_next_even odd) (some (s.segOf m)) 0
      refine ⟨_, read, by simp, fun c either => ?_⟩
      rcases List.mem_pair.mp either with rfl | rfl
      · exact ⟨rfl, .inl rfl⟩
      · exact ⟨rfl, .inr rfl⟩

end Sys2Proof

/-! ## Products and quotients

Each instruction computes numbers, which fit the registers they go to or raise interrupt 0 (R363 to R367). -/

namespace Sys2Proof.Claims

open Machine

variable {b t : State} {bytes : Addr → Byte} {P Q : Flags → Prop}

/-! ### Flags -/

theorem After.imp (a : After b t bytes P) (implies : ∀ g, P g → Q g) : After b t bytes Q :=
  ⟨a.frame, a.memory, implies _ a.status⟩

/-- Flags left undefined take free bits. -/
theorem After.undef (a : After b t bytes P) (ks : List Flag) (status : ∀ g, Drawn ks t.flags g → Q g) :
    After b (t.undef ks) bytes Q := by
  obtain ⟨f, d, undef, drawn⟩ := undef_drawn t ks
  rw [undef]
  obtain ⟨f', m, d', n, w, l, rfl, memory, -⟩ := a.fields
  exact ⟨rfl, memory, status f drawn⟩

/-- The flags a product leaves undefined are none of CF, OF, TF, IF and DF. -/
theorem drawn_product {f g : Flags} (drawn : Drawn [.sf, .zf, .af, .pf] f g) :
    g.cf = f.cf ∧ g.ofl = f.ofl ∧ Keeps3 f g := by
  obtain ⟨sf, zf, af, pf, same⟩ := drawn
  rw [show g = _ from same]
  exact ⟨rfl, rfl, rfl, rfl, rfl⟩

/-- A division leaves the six result flags undefined. -/
theorem drawn_sixFlags {f g : Flags} (drawn : Drawn sixFlags f g) : Keeps3 f g := by
  obtain ⟨cf, pf, af, zf, sf, ofl, same⟩ := drawn
  rw [show g = _ from same]
  exact ⟨rfl, rfl, rfl⟩

/-- What CF and OF say of a product. -/
def ProductFlags (f : Flags) (wide : Bool) (g : Flags) : Prop := g.cf = wide ∧ g.ofl = g.cf ∧ Keeps3 f g

theorem After.productFlags (a : After b t bytes (Same b.flags)) (wide : Bool) :
    After b (t.productFlags wide) bytes (ProductFlags b.flags wide) := by
  refine (a.setFlags { t.flags with cf := wide, ofl := wide } (Q := fun _ => True) trivial).undef _ fun g drawn => ?_
  obtain ⟨cf, ofl, kept⟩ := drawn_product drawn
  refine ⟨cf, ofl.trans cf.symm, ?_⟩
  rw [← show t.flags = b.flags from a.status]
  exact kept

/-! ### Registers after an operand was read -/

/-- AL and AH written are AX. -/
theorem put8_al_ah (g : Regs) (q r : Byte) : (g.put8 .al q).put8 .ah r = g.put16 .ax (r ++ q) := by
  show { g with ax := wordOf (lowByte (wordOf q (highByte g.ax))) r } = { g with ax := r ++ q }
  rw [lowByte_wordOf]
  rfl

theorem put8_ah_al (g : Regs) (q r : Byte) : (g.put8 .ah r).put8 .al q = g.put16 .ax (r ++ q) := by
  show { g with ax := wordOf q (highByte (wordOf (lowByte g.ax) r)) } = { g with ax := r ++ q }
  rw [highByte_wordOf]
  rfl

theorem get8_reg8 (s : State) (p : Place Reg8) (r : Reg8) : (s.get8 p).2.reg8 r = s.reg8 r := by
  rw [State.reg8, State.get8_regs, State.reg8]

theorem get8_reg16 (s : State) (p : Place Reg8) (r : Reg16) : (s.get8 p).2.reg16 r = s.reg16 r := by
  rw [State.reg16, State.get8_regs, State.reg16]

theorem get16_reg16 (s : State) (p : Place Reg16) (r : Reg16) : (s.get16 p).2.reg16 r = s.reg16 r := by
  rw [State.reg16, State.get16_regs, State.reg16]

theorem get16_pair (s : State) (p : Place Reg16) : (s.get16 p).2.pair = s.reg16 .dx ++ s.reg16 .ax := by
  rw [State.pair, get16_reg16, get16_reg16]

/-! ### Products -/

theorem product_toNat {n : Nat} (x y : BitVec n) :
    (x.setWidth (n + n) * y.setWidth (n + n)).toNat = x.toNat * y.toNat := by
  have fits : x.toNat * y.toNat < 2 ^ (n + n) := by
    rw [Nat.pow_add]
    exact Nat.mul_lt_mul'' x.isLt y.isLt
  rw [BitVec.toNat_mul, BitVec.toNat_setWidth_of_le (by omega), BitVec.toNat_setWidth_of_le (by omega),
    Nat.mod_eq_of_lt fits]

theorem product8_toInt (x y : Byte) : (x.signExtend 16 * y.signExtend 16).toInt = x.toInt * y.toInt := by
  have := x.le_toInt
  have := x.toInt_lt
  have := y.le_toInt
  have := y.toInt_lt
  rw [BitVec.toInt_mul, BitVec.toInt_signExtend_of_le (by omega), BitVec.toInt_signExtend_of_le (by omega)]
  exact Int.bmod_eq_of_le (by norm_num at *; nlinarith) (by norm_num at *; nlinarith)

theorem product16_toInt (x y : Word) : (x.signExtend 32 * y.signExtend 32).toInt = x.toInt * y.toInt := by
  have := x.le_toInt
  have := x.toInt_lt
  have := y.le_toInt
  have := y.toInt_lt
  rw [BitVec.toInt_mul, BitVec.toInt_signExtend_of_le (by omega), BitVec.toInt_signExtend_of_le (by omega)]
  exact Int.bmod_eq_of_le (by norm_num at *; nlinarith) (by norm_num at *; nlinarith)

/-- The two words of a doubleword. -/
theorem words_toNat (p : BitVec 32) :
    (p.extractLsb' 16 16).toNat * 2 ^ 16 + (p.extractLsb' 0 16).toNat = p.toNat := by
  rw [BitVec.extractLsb'_toNat, BitVec.extractLsb'_toNat, Nat.shiftRight_eq_div_pow, Nat.shiftRight_eq_div_pow]
  omega

theorem words_toInt (p : BitVec 32) :
    (p.extractLsb' 16 16).toInt * 2 ^ 16 + ((p.extractLsb' 0 16).toNat : Int) = p.toInt := by
  have whole := words_toNat p
  rw [BitVec.toInt_eq_toNat_cond, BitVec.toInt_eq_toNat_cond]
  split <;> split <;> omega

/-- The upper half is needed. -/
theorem wide8_iff (p : Word) : decide (highByte p ≠ 0) = true ↔ 2 ^ 8 ≤ p.toNat := by
  have high : (highByte p).toNat = p.toNat / 256 % 256 := by
    rw [highByte, BitVec.extractLsb'_toNat, Nat.shiftRight_eq_div_pow]
  rw [decide_eq_true_iff, ne_eq, ← BitVec.toNat_inj, high]
  simp
  omega

theorem wide16_iff (p : BitVec 32) :
    decide (p.extractLsb' 16 16 ≠ 0) = true ↔ (p.extractLsb' 16 16).toNat ≠ 0 := by
  rw [decide_eq_true_iff]
  bv_omega

/-- The upper half is needed to tell the sign. -/
theorem wideSigned8_iff (p : Word) : decide (p ≠ (lowByte p).signExtend 16) = true ↔ ¬ Signed 8 p.toInt := by
  have low : (lowByte p).toNat = p.toNat % 256 := by
    rw [lowByte, BitVec.extractLsb'_toNat, Nat.shiftRight_zero]
  rw [decide_eq_true_iff, ne_eq, ← BitVec.toInt_inj, BitVec.toInt_signExtend_of_le (by omega), not_iff_not]
  simp only [Signed, BitVec.toInt_eq_toNat_cond, low]
  split <;> split <;> omega

theorem wideSigned16_iff (p : BitVec 32) :
    decide (p ≠ (p.extractLsb' 0 16).signExtend 32) = true ↔ ¬ Signed 16 p.toInt := by
  have low : (p.extractLsb' 0 16).toNat = p.toNat % 65536 := by
    rw [BitVec.extractLsb'_toNat, Nat.shiftRight_zero]
  rw [decide_eq_true_iff, ne_eq, ← BitVec.toInt_inj, BitVec.toInt_signExtend_of_le (by omega), not_iff_not]
  simp only [Signed, BitVec.toInt_eq_toNat_cond, low]
  split <;> split <;> omega

/-- What a byte product leaves. -/
theorem product8_after (s : State) (h : s.Quiet) (e : RM Reg8) (p : Word) (wide : Bool) :
    After { s with regs := s.regs.put16 .ax p } (((s.get8 (s.place e)).2.setReg16 .ax p).productFlags wide) s.byteAt
      (ProductFlags s.flags wide) :=
  After.productFlags (b := { s with regs := s.regs.put16 .ax p })
    ((get8_after s h (s.place e)).2.setReg16 .ax p) wide

/-- What a word product leaves. -/
theorem product16_after (s : State) (h : s.Quiet) (e : RM Reg16) (p : BitVec 32) (wide : Bool) :
    After { s with regs := (s.regs.put16 .dx (p.extractLsb' 16 16)).put16 .ax (p.extractLsb' 0 16) }
      (((s.get16 (s.place e)).2.setPair p).productFlags wide) s.byteAt (ProductFlags s.flags wide) :=
  After.productFlags (b := { s with regs := (s.regs.put16 .dx (p.extractLsb' 16 16)).put16 .ax (p.extractLsb' 0 16) })
    (((get16_after s h (s.place e)).2.setReg16 .dx _).setReg16 .ax _) wide

/-- What a byte division leaves. -/
theorem quotient8_after (s : State) (h : s.Quiet) (e : RM Reg8) (q r : Byte) :
    After { s with regs := s.regs.put16 .ax (r ++ q) }
      ((((s.get8 (s.place e)).2.setReg8 .al q).setReg8 .ah r).undef sixFlags) s.byteAt (Keeps3 s.flags) := by
  have wrote := ((get8_after s h (s.place e)).2.setReg8 .al q).setReg8 .ah r
  rw [← put8_al_ah]
  refine wrote.undef _ fun g free => ?_
  rw [← show (s.get8 (s.place e)).2.flags = s.flags from State.get8_flags ..]
  exact drawn_sixFlags free

/-- What a word division leaves. -/
theorem quotient16_after (s : State) (h : s.Quiet) (e : RM Reg16) (q r : Word) :
    After { s with regs := (s.regs.put16 .ax q).put16 .dx r }
      ((((s.get16 (s.place e)).2.setReg16 .ax q).setReg16 .dx r).undef sixFlags) s.byteAt (Keeps3 s.flags) := by
  have wrote := ((get16_after s h (s.place e)).2.setReg16 .ax q).setReg16 .dx r
  refine wrote.undef _ fun g free => ?_
  rw [← show (s.get16 (s.place e)).2.flags = s.flags from State.get16_flags ..]
  exact drawn_sixFlags free

/-- Euclid's equation, in registers of `n` bits. -/
theorem unsigned_quotient {n a b : Nat} (bound : b < 2 ^ n) (fits : a < 2 ^ n * b) :
    a = (BitVec.ofNat n (a / b)).toNat * b + (BitVec.ofNat n (a % b)).toNat ∧ (BitVec.ofNat n (a % b)).toNat < b := by
  have positive : 0 < b := Nat.pos_of_ne_zero fun zero => by simp [zero] at fits
  have below : a % b < b := Nat.mod_lt a positive
  have small : a / b < 2 ^ n := Nat.div_lt_of_lt_mul (by rwa [Nat.mul_comm])
  rw [BitVec.toNat_ofNat, BitVec.toNat_ofNat, Nat.mod_eq_of_lt small, Nat.mod_eq_of_lt (below.trans bound)]
  exact ⟨(Nat.div_add_mod' a b).symm, below⟩

/-- A quotient that does not fit, or a divisor of 0. -/
theorem quotient_overflows {n a b : Nat} : b = 0 ∨ 2 ^ n - 1 < a / b ↔ 2 ^ n * b ≤ a := by
  have positive := Nat.two_pow_pos n
  rcases Nat.eq_zero_or_pos b with rfl | divisor
  · simp
  · rw [← Nat.le_div_iff_mul_le divisor]
    omega

/-! ### Quotients -/

theorem divides_tdiv {x y : Int} (nonzero : y ≠ 0) : Divides x y (x.tdiv y) (x.tmod y) where
  sum := (Int.tdiv_mul_add_tmod x y).symm
  small := by
    have := Int.natAbs_pos.mpr nonzero
    rw [Int.natAbs_tmod]
    exact Nat.mod_lt _ this
  sign := by
    rcases Int.lt_trichotomy x 0 with neg | zero | pos
    · have := Int.tmod_nonneg y (show 0 ≤ -x by omega)
      rw [Int.neg_tmod] at this
      omega
    · exact .inl (by rw [zero, Int.zero_tmod])
    · have := Int.tmod_nonneg y (Int.le_of_lt pos)
      omega

theorem ofInt8_toInt {x : Int} (small : x.natAbs ≤ 127) : (BitVec.ofInt 8 x).toInt = x := by
  rw [BitVec.toInt_ofInt]
  exact Int.bmod_eq_of_le (by omega) (by omega)

theorem ofInt16_toInt {x : Int} (small : x.natAbs ≤ 32767) : (BitVec.ofInt 16 x).toInt = x := by
  rw [BitVec.toInt_ofInt]
  exact Int.bmod_eq_of_le (by omega) (by omega)

/-! ### Divide errors -/

/-- An interrupt sequence after a part of the instruction that moved no byte. -/
theorem Interrupted.of_after {u : State} {n : Byte} {rcs rip : Word} (a : After b u b.byteAt P)
    (i : Interrupted u t n rcs rip) : Interrupted { b with flags := u.flags } t n rcs rip := by
  obtain ⟨f, m, d, k, w, l, rfl, memory, -⟩ := a.fields
  have bytes : State.byteAt { b with flags := f, mem := m, draws := d, floats := k, waits := w, log := l } =
      State.byteAt { b with flags := f } := funext memory
  unfold Interrupted vectorBytes framed at i
  rw [bytes] at i
  exact i

theorem raise_interrupted (a : After b t b.byteAt P) (h : b.Quiet) (n : Byte) :
    Interrupted { b with flags := t.flags } (t.raise n) n b.segs.cs b.ip := by
  have cs : t.segReg .cs = b.segs.cs := congrArg (·.segs.cs) a.frame
  have ip : t.ip = b.ip := congrArg (·.ip) a.frame
  rw [State.raise, cs, ip]
  exact (interrupt_interrupted t (a.quiet h) n b.segs.cs b.ip).of_after a

/-- The divide error of a byte division. -/
theorem divideError8_interrupted (a : After b t b.byteAt (Same b.flags)) (h : b.Quiet) :
    ∃ (v : Word) (f : Flags), Keeps3 b.flags f ∧
      Interrupted { b with regs := b.regs.put16 .ax v, flags := f } t.divideError8 0 b.segs.cs b.ip := by
  have drawn : After b t.drawWord.2 b.byteAt (Same b.flags) := by
    obtain ⟨f, m, d, n, w, l, rfl, memory, status⟩ := a.fields
    exact ⟨rfl, memory, status⟩
  have freed := (drawn.setReg16 .ax t.drawWord.1).undef sixFlags (Q := Keeps3 b.flags) fun g free => by
    rw [← show t.flags = b.flags from a.status]
    exact drawn_sixFlags free
  exact ⟨t.drawWord.1, _, freed.status, raise_interrupted freed h 0⟩

/-- The divide error of a word division. -/
theorem divideError16_interrupted (a : After b t b.byteAt (Same b.flags)) (h : b.Quiet) :
    ∃ (v v' : Word) (f : Flags), Keeps3 b.flags f ∧
      Interrupted { b with regs := (b.regs.put16 .ax v).put16 .dx v', flags := f }
        t.divideError16 0 b.segs.cs b.ip := by
  have drawn : After b t.drawWord.2.drawWord.2 b.byteAt (Same b.flags) := by
    obtain ⟨f, m, d, n, w, l, rfl, memory, status⟩ := a.fields
    exact ⟨rfl, memory, status⟩
  have freed := ((drawn.setReg16 .ax t.drawWord.1).setReg16 .dx t.drawWord.2.drawWord.1).undef sixFlags
    (Q := Keeps3 b.flags) fun g free => by
      rw [← show t.flags = b.flags from a.status]
      exact drawn_sixFlags free
  exact ⟨t.drawWord.1, t.drawWord.2.drawWord.1, _, freed.status, raise_interrupted freed h 0⟩

end Sys2Proof.Claims

namespace Sys2Proof

open Machine Claims

/-- Settles O25. -/
theorem products : Obligations.Products := by
  intro s h
  refine ⟨fun e => ⟨_, rfl, ?_⟩, fun e => ⟨_, rfl, ?_⟩, fun e => ⟨_, rfl, ?_⟩, fun e => ⟨_, rfl, ?_⟩⟩
  · rw [(get8_after s h (s.place e)).1, get8_reg8]
    refine ⟨_, product_toNat (n := 8) _ _, (product8_after s h e _ _).imp ?_⟩
    rintro g ⟨cf, both, kept⟩
    exact ⟨cf ▸ wide8_iff _, both, kept⟩
  · rw [(get16_after s h (s.place e)).1, get16_reg16]
    refine ⟨_, _, (words_toNat _).trans (product_toNat (n := 16) _ _), (product16_after s h e _ _).imp ?_⟩
    rintro g ⟨cf, both, kept⟩
    exact ⟨cf ▸ wide16_iff _, both, kept⟩
  · rw [(get8_after s h (s.place e)).1, get8_reg8]
    refine ⟨_, product8_toInt _ _, (product8_after s h e _ _).imp ?_⟩
    rintro g ⟨cf, both, kept⟩
    exact ⟨cf ▸ wideSigned8_iff _, both, kept⟩
  · rw [(get16_after s h (s.place e)).1, get16_reg16]
    refine ⟨_, _, (words_toInt _).trans (product16_toInt _ _), (product16_after s h e _ _).imp ?_⟩
    rintro g ⟨cf, both, kept⟩
    refine ⟨?_, both, kept⟩
    rw [cf, words_toInt]
    exact wideSigned16_iff _

/-- Settles O26. -/
theorem unsignedQuotients : Obligations.UnsignedQuotients := by
  intro s h
  constructor
  · intro e fits
    obtain ⟨sum, below⟩ := unsigned_quotient (operand8 s (s.place e)).isLt fits
    refine ⟨_, if_neg ?_, _, _, sum, below, ?_⟩
    · rw [(get8_after s h (s.place e)).1, get8_reg16]
      exact quotient_overflows.not.mpr (Nat.not_le.mpr fits)
    · rw [(get8_after s h (s.place e)).1, get8_reg16]
      exact quotient8_after s h e _ _
  · intro e fits
    obtain ⟨sum, below⟩ := unsigned_quotient (operand16 s (s.place e)).isLt fits
    refine ⟨_, if_neg ?_, _, _, (toNat_append_eq _ _).symm.trans sum, below, ?_⟩
    · rw [(get16_after s h (s.place e)).1, get16_pair]
      exact quotient_overflows.not.mpr (Nat.not_le.mpr fits)
    · rw [(get16_after s h (s.place e)).1, get16_pair]
      exact quotient16_after s h e _ _

/-- Settles O27. -/
theorem signedQuotients : Obligations.SignedQuotients := by
  intro s h
  constructor
  · intro e nonzero fits
    have divisor : (operand8 s (s.place e)).toInt ≠ 0 := fun zero => nonzero (BitVec.toInt_inj.mp zero)
    have divides := divides_tdiv (x := (s.reg16 .ax).toInt) divisor
    have bound := (operand8 s (s.place e)).le_toInt
    have bound' := (operand8 s (s.place e)).toInt_lt
    have small := divides.small
    refine ⟨_, if_neg ?_, BitVec.ofInt 8 ((s.reg16 .ax).toInt.tdiv (operand8 s (s.place e)).toInt),
      BitVec.ofInt 8 ((s.reg16 .ax).toInt.tmod (operand8 s (s.place e)).toInt), ?_, ?_⟩
    · rw [(get8_after s h (s.place e)).1, get8_reg16]
      omega
    · rw [ofInt8_toInt fits, ofInt8_toInt (by omega)]
      exact divides
    · rw [(get8_after s h (s.place e)).1, get8_reg16]
      exact quotient8_after s h e _ _
  · intro e nonzero fits
    have divisor : (operand16 s (s.place e)).toInt ≠ 0 := fun zero => nonzero (BitVec.toInt_inj.mp zero)
    have divides := divides_tdiv (x := (s.reg16 .dx ++ s.reg16 .ax).toInt) divisor
    have bound := (operand16 s (s.place e)).le_toInt
    have bound' := (operand16 s (s.place e)).toInt_lt
    have small := divides.small
    refine ⟨_, if_neg ?_, BitVec.ofInt 16 ((s.reg16 .dx ++ s.reg16 .ax).toInt.tdiv (operand16 s (s.place e)).toInt),
      BitVec.ofInt 16 ((s.reg16 .dx ++ s.reg16 .ax).toInt.tmod (operand16 s (s.place e)).toInt), ?_, ?_⟩
    · rw [(get16_after s h (s.place e)).1, get16_pair]
      omega
    · rw [ofInt16_toInt fits, ofInt16_toInt (by omega)]
      exact divides
    · rw [(get16_after s h (s.place e)).1, get16_pair]
      exact quotient16_after s h e _ _

/-- Settles O28. -/
theorem divideErrors : Obligations.DivideErrors := by
  intro s h
  constructor
  · intro i e error
    obtain ⟨v, f, kept, taken⟩ := divideError8_interrupted (get8_after s h (s.place e)).2 h
    refine ⟨_, ?_, v, f, kept, taken⟩
    rcases error with ⟨rfl, overflows⟩ | ⟨rfl, overflows⟩
    · refine if_pos ?_
      rw [(get8_after s h (s.place e)).1, get8_reg16]
      exact quotient_overflows.mpr overflows
    · refine if_pos ?_
      rw [(get8_after s h (s.place e)).1, get8_reg16, ← BitVec.toInt_zero, BitVec.toInt_inj]
      exact overflows.imp id (by omega)
  · intro i e error
    obtain ⟨v, v', f, kept, taken⟩ := divideError16_interrupted (get16_after s h (s.place e)).2 h
    refine ⟨_, ?_, v, v', f, kept, taken⟩
    rcases error with ⟨rfl, overflows⟩ | ⟨rfl, overflows⟩
    · refine if_pos ?_
      rw [(get16_after s h (s.place e)).1, get16_pair]
      exact quotient_overflows.mpr overflows
    · refine if_pos ?_
      rw [(get16_after s h (s.place e)).1, get16_pair, ← BitVec.toInt_zero, BitVec.toInt_inj]
      exact overflows.imp id (by omega)

end Sys2Proof

/-! ## Decimal adjustments

What `AAA`, `AAS`, `AAM`, `AAD`, `DAA` and `DAS` make of the digits in AL (R354, R355, R361, R362, R365, R368). -/

namespace Sys2Proof.Claims

open Machine

/-! ### Digits and flags -/

theorem low_digit (v : Byte) : (v &&& 0x0F).toNat = v.toNat % 16 := by
  rw [BitVec.toNat_and]
  exact Nat.and_two_pow_sub_one_eq_mod v.toNat 4

theorem put8_al (g : Regs) (q : Byte) : g.put8 .al q = g.put16 .ax (g.get8 .ah ++ q) := rfl

/-- The flags `AAA` and `AAS` leave undefined are none of CF, AF, TF, IF and DF. -/
theorem drawn_ascii {f g : Flags} (drawn : Drawn [.ofl, .sf, .zf, .pf] f g) :
    g.cf = f.cf ∧ g.af = f.af ∧ Keeps3 f g := by
  obtain ⟨ofl, sf, zf, pf, same⟩ := drawn
  rw [show g = _ from same]
  exact ⟨rfl, rfl, rfl, rfl, rfl⟩

/-- SF, ZF and PF are not among the flags `AAM` and `AAD` leave undefined. -/
theorem drawn_tells {f g : Flags} {r : Byte} (drawn : Drawn [.ofl, .af, .cf] (f.withResult r) g) :
    Tells r g ∧ Keeps3 f g := by
  obtain ⟨ofl, af, cf, same⟩ := drawn
  rw [show g = _ from same]
  exact ⟨tells_of_eq rfl rfl rfl, rfl, rfl, rfl⟩

/-! ### Unpacked digits -/

/-- Whether `AAA` and `AAS` correct: the low digit of AL is above 9, or AF is 1. -/
def asciiAdjusts (s : State) : Prop := 9 < (s.reg8 .al).toNat % 16 ∨ s.flags.af = true

theorem asciiAdjust_after (s : State) (al ah : Byte) : ∃ l h : Byte,
    (asciiAdjusts s → l = al &&& 0x0F ∧ h = ah) ∧
    (¬ asciiAdjusts s → l = s.reg8 .al &&& 0x0F ∧ h = s.reg8 .ah) ∧
    After { s with regs := s.regs.put16 .ax (h ++ l) } (s.asciiAdjust al ah) s.byteAt fun g =>
      (g.cf = true ↔ asciiAdjusts s) ∧ (g.af = true ↔ asciiAdjusts s) ∧ Keeps3 s.flags g := by
  have decides : (decide (9 < (s.reg8 .al).toNat % 16) || s.flags.af) = true ↔ asciiAdjusts s := by
    rw [Bool.or_eq_true, decide_eq_true_iff, asciiAdjusts]
  have status : ∀ {b : Bool} {f g : Flags}, (b = true ↔ asciiAdjusts s) → Keeps3 s.flags f →
      Drawn [.ofl, .sf, .zf, .pf] { f with af := b, cf := b } g →
      (g.cf = true ↔ asciiAdjusts s) ∧ (g.af = true ↔ asciiAdjusts s) ∧ Keeps3 s.flags g := by
    intro b f g agrees kept drawn
    obtain ⟨cf, af, tf, ifl, df⟩ := drawn_ascii drawn
    exact ⟨by rw [cf, agrees], by rw [af, agrees], tf.trans kept.1, ifl.trans kept.2.1, df.trans kept.2.2⟩
  unfold State.asciiAdjust
  by_cases adjusts : asciiAdjusts s
  · refine ⟨_, _, fun _ => ⟨rfl, rfl⟩, fun not => absurd adjusts not, ?_⟩
    dsimp only
    rw [if_pos (decides.mpr adjusts), ← put8_al_ah]
    exact ((((After.refl s).setReg8 .al _).setReg8 .ah ah).setFlags _ (Q := fun _ => True) trivial).undef _
      fun g drawn => status decides ⟨rfl, rfl, rfl⟩ drawn
  · refine ⟨_, _, fun does => absurd does adjusts, fun _ => ⟨rfl, rfl⟩, ?_⟩
    dsimp only
    rw [if_neg (decides.not.mpr adjusts)]
    exact (((After.refl s).setReg8 .al _).setFlags _ (Q := fun _ => True) trivial).undef _
      fun g drawn => status decides ⟨rfl, rfl, rfl⟩ drawn

/-! ### Packed digits -/

section Packed

variable (step : Byte → Byte → Byte) (f : Flags) (al : Byte)

/-- Whether the low digit is corrected. -/
def lowAdjusts : Bool := decide (9 < al.toNat % 16) || f.af

/-- AL after the low digit was corrected. -/
def lowAdjusted : Byte := if lowAdjusts f al then step al 0x06 else al

/-- Whether the high digit is corrected. -/
def highAdjusts : Bool := decide (0x9F < (lowAdjusted step f al).toNat) || f.cf

/-- AL after both digits were corrected. -/
def adjusted : Byte := if highAdjusts step f al then step (lowAdjusted step f al) 0x60 else lowAdjusted step f al

end Packed

theorem decimalAdjust_after (s : State) (valid : Bool) (step : Byte → Byte → Byte) : ∃ v : Byte,
    After { s with regs := s.regs.put8 .al v } (s.decimalAdjust valid step) s.byteAt fun g =>
      Tells v g ∧ Keeps3 s.flags g ∧ (valid = true →
        v = adjusted step s.flags (s.reg8 .al) ∧ g.cf = highAdjusts step s.flags (s.reg8 .al)) := by
  cases valid with
  | true =>
    refine ⟨adjusted step s.flags (s.reg8 .al),
      (((After.refl s).setReg8 .al _).setFlags _ (Q := fun _ => True) trivial).undef _ ?_⟩
    rintro g ⟨ofl, same⟩
    rw [show g = _ from same]
    exact ⟨tells_of_eq rfl rfl rfl, ⟨rfl, rfl, rfl⟩, fun _ => ⟨rfl, rfl⟩⟩
  | false =>
    have drawn : After s s.drawByte.2 s.byteAt (Same s.flags) := ⟨rfl, fun _ => rfl, rfl⟩
    refine ⟨s.drawByte.1, ((drawn.setReg8 .al _).setFlags _ (Q := fun _ => True) trivial).undef _ ?_⟩
    rintro g ⟨af, cf, ofl, same⟩
    rw [show g = _ from same]
    exact ⟨tells_of_eq rfl rfl rfl, ⟨rfl, rfl, rfl⟩, fun absurd => by simp at absurd⟩

theorem lowAdjusts_iff (f : Flags) (al : Byte) : lowAdjusts f al = true ↔ 9 < al.toNat % 16 ∨ f.af = true := by
  rw [lowAdjusts, Bool.or_eq_true, decide_eq_true_iff]

theorem highAdjusts_iff (step : Byte → Byte → Byte) (f : Flags) (al : Byte) :
    highAdjusts step f al = true ↔ 0x9F < (lowAdjusted step f al).toNat ∨ f.cf = true := by
  rw [highAdjusts, Bool.or_eq_true, decide_eq_true_iff]

/-- `DAA` adds its corrections. -/
theorem adjusted_add_toNat (f : Flags) (al : Byte) :
    (lowAdjusted (· + ·) f al).toNat = (al.toNat + if lowAdjusts f al = true then 6 else 0) % 256 ∧
      (adjusted (· + ·) f al).toNat = ((lowAdjusted (· + ·) f al).toNat +
        if highAdjusts (· + ·) f al = true then 0x60 else 0) % 256 := by
  have bound := al.isLt
  have bound' := (lowAdjusted (· + ·) f al).isLt
  constructor
  · rw [lowAdjusted]
    split
    · exact BitVec.toNat_add al 6
    · omega
  · rw [adjusted]
    split
    · exact BitVec.toNat_add _ 0x60
    · omega

/-- `DAS` subtracts them. -/
theorem adjusted_sub_toNat (f : Flags) (al : Byte) :
    (lowAdjusted (· - ·) f al).toNat = (al.toNat + if lowAdjusts f al = true then 250 else 0) % 256 ∧
      (adjusted (· - ·) f al).toNat = ((lowAdjusted (· - ·) f al).toNat +
        if highAdjusts (· - ·) f al = true then 160 else 0) % 256 := by
  have bound := al.isLt
  have bound' := (lowAdjusted (· - ·) f al).isLt
  constructor
  · rw [lowAdjusted]
    split
    · exact (BitVec.toNat_sub al 6).trans (by rw [Nat.add_comm]; rfl)
    · omega
  · rw [adjusted]
    split
    · exact (BitVec.toNat_sub _ 0x60).trans (by rw [Nat.add_comm]; rfl)
    · omega

/-- Which AL, AF and CF count as left by a sum of packed numbers. -/
theorem fromBcdSum_iff (f : Flags) (al : Byte) : f.fromBcdSum al = true ↔
    (f.af = true → al.toNat % 16 ≤ 3) ∧
      (f.cf = true → al.toNat / 16 ≤ 2 + f.af.toNat) ∧ (f.cf = false → f.af = true → 1 ≤ al.toNat / 16) := by
  unfold Flags.fromBcdSum
  cases f.af <;> cases f.cf <;> simp

/-- Which AL, AF and CF count as left by a difference of packed numbers. -/
theorem fromBcdDiff_iff (f : Flags) (al : Byte) : f.fromBcdDiff al = true ↔
    (f.af = true → 6 ≤ al.toNat % 16) ∧ (f.af = false → al.toNat % 16 ≤ 9) ∧
      (f.cf = true → 7 - f.af.toNat ≤ al.toNat / 16) ∧ (f.cf = false → al.toNat / 16 ≤ 9 - f.af.toNat) := by
  unfold Flags.fromBcdDiff
  cases f.af <;> cases f.cf <;> simp

/-- A number of two decimal digits, from its digits. -/
theorem decimal_of_digits {v h l : Nat} (two : v = 16 * h + l) (hh : h ≤ 9) (hl : l ≤ 9) :
    v / 16 ≤ 9 ∧ v % 16 ≤ 9 ∧ 10 * (v / 16) + v % 16 = 10 * h + l := by omega

/-- The corrections of `DAA`, digit by digit: the low digits carry from 10 on, and so do the high ones. -/
theorem corrected_sum {xh xl yh yl c al a v : Nat} (hxh : xh ≤ 9) (hxl : xl ≤ 9) (hyh : yh ≤ 9) (hyl : yl ≤ 9)
    (bit : c ≤ 1) (below : al < 0xFA) (value : al = (16 * xh + xl + (16 * yh + yl) + c) % 256) (low high : Prop)
    [Decidable low] [Decidable high] (lowIff : low ↔ 9 < al % 16 ∨ 16 ≤ xl + yl + c)
    (first : a = (al + if low then 6 else 0) % 256)
    (highIff : high ↔ 0x9F < a ∨ 256 ≤ 16 * xh + xl + (16 * yh + yl) + c)
    (second : v = (a + if high then 0x60 else 0) % 256) :
    (v / 16 ≤ 9 ∧ v % 16 ≤ 9 ∧ 10 * (v / 16) + v % 16 = (10 * xh + xl + (10 * yh + yl) + c) % 100) ∧
      (high ↔ 100 ≤ 10 * xh + xl + (10 * yh + yl) + c) := by
  by_cases carries : 10 ≤ xl + yl + c
  · rw [if_pos (show low by rw [lowIff]; omega)] at first
    by_cases carries' : 10 ≤ xh + yh + 1
    · have isHigh : high := by rw [highIff]; omega
      rw [if_pos isHigh] at second
      have digits := decimal_of_digits (v := v) (h := xh + yh + 1 - 10) (l := xl + yl + c - 10)
        (by omega) (by omega) (by omega)
      exact ⟨⟨digits.1, digits.2.1, by omega⟩, iff_of_true isHigh (by omega)⟩
    · have isHigh : ¬ high := by rw [highIff]; omega
      rw [if_neg isHigh] at second
      have digits := decimal_of_digits (v := v) (h := xh + yh + 1) (l := xl + yl + c - 10)
        (by omega) (by omega) (by omega)
      exact ⟨⟨digits.1, digits.2.1, by omega⟩, iff_of_false isHigh (by omega)⟩
  · rw [if_neg (show ¬ low by rw [lowIff]; omega)] at first
    by_cases carries' : 10 ≤ xh + yh
    · have isHigh : high := by rw [highIff]; omega
      rw [if_pos isHigh] at second
      have digits := decimal_of_digits (v := v) (h := xh + yh - 10) (l := xl + yl + c)
        (by omega) (by omega) (by omega)
      exact ⟨⟨digits.1, digits.2.1, by omega⟩, iff_of_true isHigh (by omega)⟩
    · have isHigh : ¬ high := by rw [highIff]; omega
      rw [if_neg isHigh] at second
      have digits := decimal_of_digits (v := v) (h := xh + yh) (l := xl + yl + c)
        (by omega) (by omega) (by omega)
      exact ⟨⟨digits.1, digits.2.1, by omega⟩, iff_of_false isHigh (by omega)⟩

/-- The corrections of `DAS`, digit by digit: a digit that is too small borrows from the next. -/
theorem corrected_diff {xh xl yh yl c al a v : Nat} (hxh : xh ≤ 9) (hxl : xl ≤ 9) (hyh : yh ≤ 9) (hyl : yl ≤ 9)
    (bit : c ≤ 1) (value : (al : Int) = ((16 * xh + xl : Nat) - (16 * yh + yl : Nat) - c : Int) % 256) (low high : Prop)
    [Decidable low] [Decidable high] (lowIff : low ↔ 9 < al % 16 ∨ xl < yl + c)
    (first : a = (al + if low then 250 else 0) % 256)
    (highIff : high ↔ 0x9F < a ∨ 16 * xh + xl < 16 * yh + yl + c)
    (second : v = (a + if high then 160 else 0) % 256) :
    (v / 16 ≤ 9 ∧ v % 16 ≤ 9 ∧
        ((10 * (v / 16) + v % 16 : Nat) : Int) = ((10 * xh + xl : Nat) - (10 * yh + yl : Nat) - c : Int) % 100) ∧
      (high ↔ 10 * xh + xl < 10 * yh + yl + c) := by
  by_cases borrows : xl < yl + c
  · rw [if_pos (show low by rw [lowIff]; omega)] at first
    by_cases borrows' : xh < yh + 1
    · have isHigh : high := by rw [highIff]; omega
      rw [if_pos isHigh] at second
      have digits := decimal_of_digits (v := v) (h := xh + 10 - yh - 1) (l := xl + 10 - yl - c)
        (by omega) (by omega) (by omega)
      exact ⟨⟨digits.1, digits.2.1, by omega⟩, iff_of_true isHigh (by omega)⟩
    · have isHigh : ¬ high := by rw [highIff]; omega
      rw [if_neg isHigh] at second
      have digits := decimal_of_digits (v := v) (h := xh - yh - 1) (l := xl + 10 - yl - c)
        (by omega) (by omega) (by omega)
      exact ⟨⟨digits.1, digits.2.1, by omega⟩, iff_of_false isHigh (by omega)⟩
  · rw [if_neg (show ¬ low by rw [lowIff]; omega)] at first
    by_cases borrows' : xh < yh
    · have isHigh : high := by rw [highIff]; omega
      rw [if_pos isHigh] at second
      have digits := decimal_of_digits (v := v) (h := xh + 10 - yh) (l := xl - yl - c)
        (by omega) (by omega) (by omega)
      exact ⟨⟨digits.1, digits.2.1, by omega⟩, iff_of_true isHigh (by omega)⟩
    · have isHigh : ¬ high := by rw [highIff]; omega
      rw [if_neg isHigh] at second
      have digits := decimal_of_digits (v := v) (h := xh - yh) (l := xl - yl - c)
        (by omega) (by omega) (by omega)
      exact ⟨⟨digits.1, digits.2.1, by omega⟩, iff_of_false isHigh (by omega)⟩
theorem carryIn_le (counts : Bool) (f : Flags) : carryIn counts f ≤ 1 := by
  rw [carryIn_eq]
  exact Bool.toNat_le _

/-- The sum of two packed numbers, corrected (R355). -/
theorem packed_sum {f g : Flags} {x y al : Byte} (px : Packed x) (py : Packed y) (below : al.toNat < 0xFA)
    (sum : Sum true 8 f x y al g) :
    g.fromBcdSum al = true ∧ Packed (adjusted (· + ·) g al) ∧
      decimal (adjusted (· + ·) g al) = (decimal x + decimal y + carryIn true f) % 100 ∧
      (highAdjusts (· + ·) g al = true ↔ 100 ≤ decimal x + decimal y + carryIn true f) := by
  obtain ⟨value, carry, half, -, -, -⟩ := sum
  obtain ⟨px1, px0⟩ := px
  obtain ⟨py1, py0⟩ := py
  have bit := carryIn_le true f
  generalize carryIn true f = c at *
  constructor
  · rw [fromBcdSum_iff]
    refine ⟨fun af => ?_, fun cf => ?_, fun cf af => ?_⟩
    · have carries := half.mp af
      omega
    · have wraps := carry.mp cf
      cases af : g.af with
      | true =>
        rw [Bool.toNat_true]
        omega
      | false =>
        have carriesNot := half.not.mp (by rw [af]; decide)
        rw [Bool.toNat_false]
        omega
    · have carries := half.mp af
      have wrapsNot := carry.not.mp (by rw [cf]; decide)
      omega
  · obtain ⟨first, second⟩ := adjusted_add_toNat g al
    obtain ⟨⟨high, low, decimal⟩, carries⟩ := corrected_sum px1 px0 py1 py0 bit below
      (value.trans (by rw [Nat.div_add_mod, Nat.div_add_mod]; rfl)) (lowAdjusts g al = true)
      (highAdjusts (· + ·) g al = true) ((lowAdjusts_iff g al).trans (by rw [half])) first
      ((highAdjusts_iff (· + ·) g al).trans (by rw [carry, Nat.div_add_mod, Nat.div_add_mod]; rfl)) second
    exact ⟨⟨high, low⟩, decimal, carries⟩

/-- The difference of two packed numbers, corrected (R362). -/
theorem packed_diff {f g : Flags} {x y al : Byte} (px : Packed x) (py : Packed y)
    (diff : Diff true 8 f x y al g) :
    g.fromBcdDiff al = true ∧ Packed (adjusted (· - ·) g al) ∧
      (decimal (adjusted (· - ·) g al) : Int) = ((decimal x : Int) - decimal y - carryIn true f) % 100 ∧
      (highAdjusts (· - ·) g al = true ↔ decimal x < decimal y + carryIn true f) := by
  obtain ⟨value, borrow, half, -, -, -⟩ := diff
  obtain ⟨px1, px0⟩ := px
  obtain ⟨py1, py0⟩ := py
  have bit := carryIn_le true f
  generalize carryIn true f = c at *
  constructor
  · rw [fromBcdDiff_iff]
    refine ⟨fun af => ?_, fun af => ?_, fun cf => ?_, fun cf => ?_⟩
    · have borrows := half.mp af
      omega
    · have borrowsNot := half.not.mp (by rw [af]; decide)
      omega
    · have wraps := borrow.mp cf
      cases af : g.af with
      | true =>
        rw [Bool.toNat_true]
        omega
      | false =>
        have borrowsNot := half.not.mp (by rw [af]; decide)
        rw [Bool.toNat_false]
        omega
    · have wrapsNot := borrow.not.mp (by rw [cf]; decide)
      cases af : g.af with
      | true =>
        have borrows := half.mp af
        rw [Bool.toNat_true]
        omega
      | false =>
        rw [Bool.toNat_false]
        omega
  · obtain ⟨first, second⟩ := adjusted_sub_toNat g al
    obtain ⟨⟨high, low, decimal⟩, borrows⟩ := corrected_diff px1 px0 py1 py0 bit
      (value.trans (by rw [Nat.div_add_mod, Nat.div_add_mod]; rfl)) (lowAdjusts g al = true)
      (highAdjusts (· - ·) g al = true) ((lowAdjusts_iff g al).trans (by rw [half])) first
      ((highAdjusts_iff (· - ·) g al).trans (by rw [borrow, Nat.div_add_mod, Nat.div_add_mod])) second
    exact ⟨⟨high, low⟩, decimal, borrows⟩

end Sys2Proof.Claims

namespace Sys2Proof

open Machine Claims

/-- Settles O29. -/
theorem asciiAdjusts : Obligations.AsciiAdjusts := by
  intro s al ah adjusts
  constructor
  · obtain ⟨l, h, does, not, after⟩ := asciiAdjust_after s (s.reg8 .al + 6) (s.reg8 .ah + 1)
    refine ⟨_, rfl, l, h, fun yes => ?_, fun no => ?_, after⟩
    · obtain ⟨rfl, rfl⟩ := does yes
      rw [low_digit, BitVec.toNat_add, BitVec.toNat_add]
      exact ⟨by show (al + 6) % 256 % 16 = _; omega, rfl⟩
    · obtain ⟨rfl, rfl⟩ := not no
      exact ⟨low_digit _, rfl⟩
  · obtain ⟨l, h, does, not, after⟩ := asciiAdjust_after s (s.reg8 .al - 6) (s.reg8 .ah - 1)
    refine ⟨_, rfl, l, h, fun yes => ?_, fun no => ?_, after⟩
    · obtain ⟨rfl, rfl⟩ := does yes
      rw [low_digit, BitVec.toNat_sub, BitVec.toNat_sub]
      exact ⟨by show (250 + al) % 256 % 16 = _; omega, by show (255 + ah) % 256 = _; omega⟩
    · obtain ⟨rfl, rfl⟩ := not no
      exact ⟨low_digit _, rfl⟩

/-- Settles O30. -/
theorem asciiProducts : Obligations.AsciiProducts := by
  intro s
  have bound := (s.reg8 .al).isLt
  constructor
  · refine ⟨_, rfl, BitVec.ofNat 8 ((s.reg8 .al).toNat % 10), BitVec.ofNat 8 ((s.reg8 .al).toNat / 10), ?_, ?_, ?_⟩
    · rw [BitVec.toNat_ofNat, BitVec.toNat_ofNat]
      omega
    · rw [BitVec.toNat_ofNat]
      omega
    · rw [← put8_ah_al]
      exact ((((After.refl s).setReg8 .ah _).setReg8 .al _).setFlags _ (Q := fun _ => True) trivial).undef _
        fun g drawn => drawn_tells drawn
  · refine ⟨_, rfl, s.reg8 .ah * 10 + s.reg8 .al, ?_, ?_⟩
    · rw [BitVec.toNat_add, BitVec.toNat_mul]
      show ((s.reg8 .ah).toNat * 10 % 256 + (s.reg8 .al).toNat) % 256 = _
      omega
    · rw [← put8_al_ah]
      exact ((((After.refl s).setReg8 .al _).setReg8 .ah _).setFlags _ (Q := fun _ => True) trivial).undef _
        fun g drawn => drawn_tells drawn

/-- Settles O31. -/
theorem decimalAdjusts : Obligations.DecimalAdjusts := by
  intro s
  constructor
  · obtain ⟨v, after⟩ := decimalAdjust_after s (s.flags.fromBcdSum (s.reg8 .al)) (· + ·)
    refine ⟨_, rfl, v, after.imp ?_⟩
    rintro g ⟨tells, kept, valid⟩
    refine ⟨tells, kept, fun f x y px py below sum => ?_⟩
    obtain ⟨bcd, packed, value, carry⟩ := packed_sum px py below sum
    obtain ⟨rfl, cf⟩ := valid bcd
    exact ⟨packed, value, by rw [cf]; exact carry⟩
  · obtain ⟨v, after⟩ := decimalAdjust_after s (s.flags.fromBcdDiff (s.reg8 .al)) (· - ·)
    refine ⟨_, rfl, v, after.imp ?_⟩
    rintro g ⟨tells, kept, valid⟩
    refine ⟨tells, kept, fun f x y px py diff => ?_⟩
    obtain ⟨bcd, packed, value, borrow⟩ := packed_diff px py diff
    obtain ⟨rfl, cf⟩ := valid bcd
    exact ⟨packed, value, by rw [cf]; exact borrow⟩

end Sys2Proof

/-! ## Shifts and rotates

A count is a number of single-bit steps: what one step does to the bits, and what any number of them does (R400 to
R408). -/

namespace Sys2Proof.Machine

variable {n : Nat}

/-! ### One step -/

/-- The last of several steps. -/
theorem Shift.steps_succ (k : Shift) (count : Nat) (cf : Bool) (v : BitVec n) :
    k.steps (count + 1) cf v = k.once (k.steps count cf v).1 (k.steps count cf v).2 := by
  induction count generalizing cf v with
  | zero => rfl
  | succ count ih => exact ih _ _

theorem topBit_bit (positive : 0 < n) (b : Bool) (j : Nat) : (topBit n b).getLsbD j = (decide (j = n - 1) && b) := by
  unfold topBit
  rw [BitVec.getLsbD_shiftLeft, BitVec.getLsbD_ofNat]
  by_cases top : j = n - 1
  · subst top
    cases b <;> simp [positive]
  · cases b with
    | false => simp
    | true =>
      by_cases below : j < n - 1
      · simp [top, below]
      · simp [top, show ¬ j < n by omega]

theorem bottomBit_bit (positive : 0 < n) (b : Bool) (j : Nat) :
    (BitVec.ofNat n b.toNat).getLsbD j = (decide (j = 0) && b) := by
  rw [BitVec.getLsbD_ofNat]
  by_cases bottom : j = 0
  · subst bottom
    cases b <;> simp [positive]
  · cases b with
    | false => simp
    | true =>
      have clear : Nat.testBit 1 j = false :=
        Bool.eq_false_iff.mpr fun set => bottom (Nat.testBit_one_eq_true_iff_self_eq_zero.mp set)
      simp [bottom, clear]

/-- A step to the left, `b` coming in at the bottom. -/
theorem shiftLeft_bit (positive : 0 < n) (v : BitVec n) (b : Bool) {j : Nat} (inside : j < n) :
    ((v <<< 1) ||| BitVec.ofNat n b.toNat).getLsbD j = if j = 0 then b else v.getLsbD (j - 1) := by
  rw [BitVec.getLsbD_or, BitVec.getLsbD_shiftLeft, bottomBit_bit positive]
  by_cases bottom : j = 0
  · simp [bottom]
  · simp [bottom, inside, show ¬ j < 1 by omega]

/-- A step to the right, `b` coming in at the top. -/
theorem shiftRight_bit (positive : 0 < n) (v : BitVec n) (b : Bool) {j : Nat} (inside : j < n) :
    ((v >>> 1) ||| topBit n b).getLsbD j = if j = n - 1 then b else v.getLsbD (j + 1) := by
  rw [BitVec.getLsbD_or, BitVec.getLsbD_ushiftRight, topBit_bit positive]
  by_cases top : j = n - 1
  · simp [top, show 1 + (n - 1) = n by omega]
  · simp [top, Nat.add_comm]

/-! ### Shifts -/

theorem Shift.shl_steps (count : Nat) (cf : Bool) (v : BitVec n) : (Shift.shl.steps count cf v).2 = v <<< count := by
  induction count with
  | zero => simp [Shift.steps]
  | succ count ih =>
    rw [Shift.steps_succ, ih]
    exact (BitVec.shiftLeft_add v count 1).symm

theorem Shift.shr_steps (count : Nat) (cf : Bool) (v : BitVec n) : (Shift.shr.steps count cf v).2 = v >>> count := by
  induction count with
  | zero => simp [Shift.steps]
  | succ count ih =>
    rw [Shift.steps_succ, ih]
    exact (BitVec.shiftRight_add v count 1).symm

theorem sshiftRight_one (positive : 0 < n) (v : BitVec n) : (v >>> 1) ||| topBit n v.msb = v.sshiftRight 1 := by
  apply BitVec.eq_of_getLsbD_eq
  intro j inside
  rw [shiftRight_bit positive v v.msb inside, BitVec.getLsbD_sshiftRight]
  by_cases top : j = n - 1
  · simp [top, show 1 + (n - 1) = n by omega, positive]
  · simp [top, Nat.add_comm, inside, show j + 1 < n by omega]

theorem Shift.sar_steps (positive : 0 < n) (count : Nat) (cf : Bool) (v : BitVec n) :
    (Shift.sar.steps count cf v).2 = v.sshiftRight count := by
  induction count with
  | zero => simp [Shift.steps]
  | succ count ih =>
    rw [Shift.steps_succ, ih, BitVec.sshiftRight_add]
    exact sshiftRight_one positive _

/-! ### Rotates -/

theorem Shift.rol_steps (count : Nat) (cf : Bool) (v : BitVec n) {j : Nat} (inside : j < n) :
    (Shift.rol.steps count cf v).2.getLsbD ((j + count) % n) = v.getLsbD j := by
  have positive : 0 < n := by omega
  induction count with
  | zero => rw [Nat.add_zero, Nat.mod_eq_of_lt inside, Shift.steps]
  | succ count ih =>
    have before := Nat.mod_lt (j + count) positive
    rw [Shift.steps_succ, ← ih, ← Nat.add_assoc, ← Nat.mod_add_mod]
    generalize (j + count) % n = k at before
    generalize (Shift.rol.steps count cf v).2 = w
    show ((w <<< 1) ||| BitVec.ofNat n w.msb.toNat).getLsbD ((k + 1) % n) = w.getLsbD k
    rw [shiftLeft_bit positive w w.msb (Nat.mod_lt _ positive)]
    by_cases top : k + 1 = n
    · rw [top, Nat.mod_self, if_pos rfl, BitVec.msb_eq_getLsbD_last, show n - 1 = k by omega]
    · rw [Nat.mod_eq_of_lt (by omega), if_neg (by omega), Nat.add_sub_cancel]

theorem Shift.ror_steps (count : Nat) (cf : Bool) (v : BitVec n) {j : Nat} (inside : j < n) :
    (Shift.ror.steps count cf v).2.getLsbD j = v.getLsbD ((j + count) % n) := by
  have positive : 0 < n := by omega
  induction count generalizing j with
  | zero => rw [Nat.add_zero, Nat.mod_eq_of_lt inside, Shift.steps]
  | succ count ih =>
    rw [Shift.steps_succ]
    show (((Shift.ror.steps count cf v).2 >>> 1) ||| topBit n ((Shift.ror.steps count cf v).2.getLsbD 0)).getLsbD j = _
    rw [shiftRight_bit positive _ _ inside, ih positive]
    by_cases top : j = n - 1
    · rw [if_pos top, top, show n - 1 + (count + 1) = 0 + count + n by omega, Nat.add_mod_right]
    · rw [if_neg top, ih (by omega), Nat.add_assoc, Nat.add_comm 1 count]

theorem Shift.rcl_steps (positive : 0 < n) (count : Nat) (cf : Bool) (v : BitVec n) {j : Nat} (inside : j ≤ n) :
    Claims.withCarry (Shift.rcl.steps count cf v).1 (Shift.rcl.steps count cf v).2 ((j + count) % (n + 1)) =
      Claims.withCarry cf v j := by
  induction count with
  | zero => rw [Nat.add_zero, Nat.mod_eq_of_lt (by omega), Shift.steps]
  | succ count ih =>
    have before := Nat.mod_lt (j + count) (Nat.succ_pos n)
    rw [Shift.steps_succ, ← ih, ← Nat.add_assoc, ← Nat.mod_add_mod]
    generalize (j + count) % (n + 1) = k at before
    generalize (Shift.rcl.steps count cf v).2 = w
    generalize (Shift.rcl.steps count cf v).1 = c
    show Claims.withCarry w.msb ((w <<< 1) ||| BitVec.ofNat n c.toNat) ((k + 1) % (n + 1)) = Claims.withCarry c w k
    unfold Claims.withCarry
    by_cases carry : k = n
    · rw [carry, Nat.mod_self, if_neg (by omega), if_pos rfl, shiftLeft_bit positive w c positive, if_pos rfl]
    · rw [Nat.mod_eq_of_lt (by omega), if_neg carry]
      by_cases top : k + 1 = n
      · rw [if_pos top, BitVec.msb_eq_getLsbD_last, show n - 1 = k by omega]
      · rw [if_neg top, shiftLeft_bit positive w c (by omega), if_neg (by omega), Nat.add_sub_cancel]

theorem Shift.rcr_steps (positive : 0 < n) (count : Nat) (cf : Bool) (v : BitVec n) {j : Nat} (inside : j ≤ n) :
    Claims.withCarry (Shift.rcr.steps count cf v).1 (Shift.rcr.steps count cf v).2 j =
      Claims.withCarry cf v ((j + count) % (n + 1)) := by
  induction count generalizing j with
  | zero => rw [Nat.add_zero, Nat.mod_eq_of_lt (by omega), Shift.steps]
  | succ count ih =>
    rw [Shift.steps_succ]
    have bit : ∀ k, k ≤ n → Claims.withCarry cf v ((k + count) % (n + 1)) =
      Claims.withCarry (Shift.rcr.steps count cf v).1 (Shift.rcr.steps count cf v).2 k := fun k below => (ih below).symm
    generalize (Shift.rcr.steps count cf v).2 = w at bit
    generalize (Shift.rcr.steps count cf v).1 = c at bit
    show Claims.withCarry (w.getLsbD 0) ((w >>> 1) ||| topBit n c) j = _
    by_cases carry : j = n
    · rw [carry, show n + (count + 1) = 0 + count + (n + 1) by omega, Nat.add_mod_right, bit 0 (by omega)]
      unfold Claims.withCarry
      rw [if_pos rfl, if_neg (by omega)]
    · rw [show j + (count + 1) = j + 1 + count by omega, bit (j + 1) (by omega)]
      unfold Claims.withCarry
      rw [if_neg carry, shiftRight_bit positive w c (by omega)]
      by_cases top : j + 1 = n
      · rw [if_pos top, if_pos (by omega)]
      · rw [if_neg top, if_neg (by omega)]

end Sys2Proof.Machine

namespace Sys2Proof.Claims

open Machine

variable {n : Nat}

/-! ### The flags of a shift -/

/-- A shift's flags: CF and the result flags are defined, OF for a count of 1. -/
theorem drawn_shift {k : Shift} (shift : k.isRotate = false) {count : Nat} {f g : Flags} {a : BitVec n}
    (drawn : Drawn (k.undefined count) (f.shifted k count a) g) :
    g.cf = (k.steps count f.cf a).1 ∧
      (count = 1 → g.ofl = k.overflow a (k.steps count f.cf a).1 (k.steps count f.cf a).2) ∧
      Tells (k.steps count f.cf a).2 g ∧ Keeps3 f g := by
  unfold Shift.undefined Flags.shifted at drawn
  rw [shift] at drawn
  dsimp only at drawn
  by_cases one : count = 1
  · rw [if_pos one, if_pos one] at drawn
    obtain ⟨af, same⟩ := drawn
    rw [show g = _ from same]
    exact ⟨rfl, fun _ => rfl, tells_of_eq rfl rfl rfl, rfl, rfl, rfl⟩
  · rw [if_neg one, if_neg one] at drawn
    obtain ⟨af, ofl, same⟩ := drawn
    rw [show g = _ from same]
    exact ⟨rfl, fun is => absurd is one, tells_of_eq rfl rfl rfl, rfl, rfl, rfl⟩

/-- A rotate's flags: CF is defined, OF for a count of 1, and the result flags stay. -/
theorem drawn_rotate {k : Shift} (rotate : k.isRotate = true) {count : Nat} {f g : Flags} {a : BitVec n}
    (drawn : Drawn (k.undefined count) (f.shifted k count a) g) :
    g.cf = (k.steps count f.cf a).1 ∧
      (count = 1 → g.ofl = k.overflow a (k.steps count f.cf a).1 (k.steps count f.cf a).2) ∧
      KeepsResultFlags f g ∧ Keeps3 f g := by
  unfold Shift.undefined Flags.shifted at drawn
  rw [rotate] at drawn
  dsimp only at drawn
  by_cases one : count = 1
  · rw [if_pos one, if_pos one] at drawn
    rw [show g = _ from drawn]
    exact ⟨rfl, fun _ => rfl, ⟨rfl, rfl, rfl, rfl⟩, rfl, rfl, rfl⟩
  · rw [if_neg one, if_neg one] at drawn
    obtain ⟨ofl, same⟩ := drawn
    rw [show g = _ from same]
    exact ⟨rfl, fun is => absurd is one, ⟨rfl, rfl, rfl, rfl⟩, rfl, rfl, rfl⟩

/-! ### What each operation does -/

/-- The operation, by any count but 0, does what the relation says. -/
def ShiftSound (rel : Nat → Rel1) (k : Shift) : Prop :=
  ∀ (n count : Nat) (f g : Flags) (a : BitVec n), n = 8 ∨ n = 16 → count ≠ 0 →
    Drawn (k.undefined count) (f.shifted k count a) g → rel count n f a (k.steps count f.cf a).2 g

theorem xor_iff_ne {p q : Bool} : (p ^^ q) = true ↔ p ≠ q := by cases p <;> cases q <;> decide

theorem bit0_iff (r : BitVec n) : r.getLsbD 0 = true ↔ r.toNat % 2 = 1 := by
  rw [BitVec.getLsbD, Nat.testBit_zero, decide_eq_true_iff]

theorem shl_sound : ShiftSound ShiftedLeft .shl := by
  intro n count f g a width nonzero drawn
  obtain ⟨before, rfl⟩ := Nat.exists_eq_succ_of_ne_zero nonzero
  obtain ⟨carry, overflow, tells, kept⟩ := drawn_shift rfl drawn
  have last : (Shift.shl.steps (before + 1) f.cf a).1 = (a <<< before).msb := by
    rw [Shift.steps_succ, Shift.shl_steps]
    rfl
  refine ⟨?_, ?_, fun one => ?_, tells, kept⟩
  · rw [Shift.shl_steps, BitVec.toNat_shiftLeft, Nat.shiftLeft_eq]
  · rw [carry, last, BitVec.msb_eq_decide, decide_eq_true_iff, BitVec.toNat_shiftLeft, Nat.shiftLeft_eq, Nat.pow_succ,
      ← Nat.mul_assoc]
    generalize a.toNat * 2 ^ before = x
    rcases width with rfl | rfl <;> omega
  · obtain rfl : before = 0 := by omega
    rw [overflow one, Shift.overflow, xor_iff_ne, last, BitVec.shiftLeft_zero]

theorem shr_sound : ShiftSound ShiftedRight .shr := by
  intro n count f g a width nonzero drawn
  obtain ⟨before, rfl⟩ := Nat.exists_eq_succ_of_ne_zero nonzero
  obtain ⟨carry, overflow, tells, kept⟩ := drawn_shift rfl drawn
  refine ⟨?_, ?_, overflow, tells, kept⟩
  · rw [Shift.shr_steps, BitVec.toNat_ushiftRight, Nat.shiftRight_eq_div_pow]
  · rw [carry, Shift.steps_succ, Shift.shr_steps]
    show (a >>> before).getLsbD 0 = true ↔ _
    rw [bit0_iff, BitVec.toNat_ushiftRight, Nat.shiftRight_eq_div_pow, Nat.succ_sub_one]

theorem sar_sound : ShiftSound ShiftedSigned .sar := by
  intro n count f g a width nonzero drawn
  obtain ⟨before, rfl⟩ := Nat.exists_eq_succ_of_ne_zero nonzero
  obtain ⟨carry, overflow, tells, kept⟩ := drawn_shift rfl drawn
  have positive : 0 < n := by omega
  refine ⟨?_, ?_, overflow, tells, kept⟩
  · rw [Shift.sar_steps positive, BitVec.toInt_sshiftRight, Int.shiftRight_eq_div_pow]
    push_cast
    rfl
  · rw [carry, Shift.steps_succ, Shift.sar_steps positive]
    show (a.sshiftRight before).getLsbD 0 = true ↔ _
    have value : (a.sshiftRight before).toInt = a.toInt / 2 ^ before := by
      rw [BitVec.toInt_sshiftRight, Int.shiftRight_eq_div_pow]
      push_cast
      rfl
    rw [bit0_iff, Nat.succ_sub_one, ← value, BitVec.toInt_eq_toNat_cond]
    rcases width with rfl | rfl
    · split <;> omega
    · split <;> omega

theorem rol_sound : ShiftSound RotatedLeft .rol := by
  intro n count f g a width nonzero drawn
  obtain ⟨before, rfl⟩ := Nat.exists_eq_succ_of_ne_zero nonzero
  obtain ⟨carry, overflow, results, kept⟩ := drawn_rotate rfl drawn
  have positive : 0 < n := by omega
  refine ⟨fun j inside => Shift.rol_steps _ _ _ inside, ?_, fun one => ?_, results, kept⟩
  · rw [carry, Shift.steps_succ]
    exact (shiftLeft_bit positive _ _ positive).symm
  · rw [overflow one, carry, Shift.overflow, xor_iff_ne]

theorem ror_sound : ShiftSound RotatedRight .ror := by
  intro n count f g a width nonzero drawn
  obtain ⟨before, rfl⟩ := Nat.exists_eq_succ_of_ne_zero nonzero
  obtain ⟨carry, overflow, results, kept⟩ := drawn_rotate rfl drawn
  have positive : 0 < n := by omega
  refine ⟨fun j inside => Shift.ror_steps _ _ _ inside, ?_, fun one => ?_, results, kept⟩
  · rw [carry, Shift.steps_succ, BitVec.msb_eq_getLsbD_last]
    exact ((shiftRight_bit positive _ _ (by omega)).trans (if_pos rfl)).symm
  · rw [overflow one, Shift.overflow, xor_iff_ne]

theorem rcl_sound : ShiftSound CarriedLeft .rcl := by
  intro n count f g a width nonzero drawn
  obtain ⟨carry, overflow, results, kept⟩ := drawn_rotate rfl drawn
  refine ⟨fun j inside => ?_, fun one => ?_, results, kept⟩
  · rw [carry]
    exact Shift.rcl_steps (by omega) count f.cf a inside
  · rw [overflow one, carry, Shift.overflow, xor_iff_ne]

theorem rcr_sound : ShiftSound CarriedRight .rcr := by
  intro n count f g a width nonzero drawn
  obtain ⟨carry, overflow, results, kept⟩ := drawn_rotate rfl drawn
  refine ⟨fun j inside => ?_, fun one => ?_, results, kept⟩
  · rw [carry]
    exact Shift.rcr_steps (by omega) count f.cf a inside
  · rw [overflow one, Shift.overflow, xor_iff_ne]

/-! ### The forms -/

/-- One operation on CF and the operand, of a count. -/
def shiftOp (k : Shift) (count : Nat) : Alu1 n := fun f a => ((k.steps count f.cf a).2, f.shifted k count a)

theorem shift8_update (s : State) (k : Shift) (e : RM Reg8) {count : Nat} (nonzero : count ≠ 0) :
    s.shift8 k e count = (s.update8 (s.place e) (shiftOp k count)).undef (k.undefined count) := if_neg nonzero

theorem shift16_update (s : State) (k : Shift) (e : RM Reg16) {count : Nat} (nonzero : count ≠ 0) :
    s.shift16 k e count = (s.update16 (s.place e) (shiftOp k count)).undef (k.undefined count) := if_neg nonzero

theorem changes8_of_shift {rel : Nat → Rel1} {k : Shift} (sound : ShiftSound rel k) {i : Instr} {e : RM Reg8}
    {s : State}
    (h : s.Quiet) {count : Nat} (nonzero : count ≠ 0) (ends : exec i s = .next (s.shift8 k e count)) :
    Changes8 (rel count) i e s := by
  rw [shift8_update s k e nonzero] at ends
  exact ⟨_, ends, _, update8_after s h (s.place e) (shiftOp k count) _ fun g drawn =>
    sound 8 count _ g _ byteWide nonzero drawn⟩

theorem changes16_of_shift {rel : Nat → Rel1} {k : Shift} (sound : ShiftSound rel k) {i : Instr} {e : RM Reg16}
    {s : State} (h : s.Quiet) {count : Nat} (nonzero : count ≠ 0) (ends : exec i s = .next (s.shift16 k e count)) :
    Changes16 (rel count) i e s := by
  rw [shift16_update s k e nonzero] at ends
  exact ⟨_, ends, _, update16_after s h (s.place e) (shiftOp k count) _ fun g drawn =>
    sound 16 count _ g _ wordWide nonzero drawn⟩

/-- The four forms, from what each of them runs. -/
theorem shiftForms_of {rel : Nat → Rel1} {k : Shift} (sound : ShiftSound rel k) {one8 : RM Reg8 → Instr}
    {one16 : RM Reg16 → Instr} {cl8 : RM Reg8 → Instr} {cl16 : RM Reg16 → Instr}
    (h1 : ∀ e s, exec (one8 e) s = .next (s.shift8 k e 1)) (h2 : ∀ e s, exec (one16 e) s = .next (s.shift16 k e 1))
    (h3 : ∀ e s, exec (cl8 e) s = .next (s.shift8 k e (s.reg8 .cl).toNat))
    (h4 : ∀ e s, exec (cl16 e) s = .next (s.shift16 k e (s.reg8 .cl).toNat)) : ShiftForms rel one8 one16 cl8 cl16 := by
  intro s h
  refine ⟨fun e => changes8_of_shift sound h one_ne_zero (h1 e s),
    fun e => changes16_of_shift sound h one_ne_zero (h2 e s), fun counts => ?_⟩
  have nonzero : (s.reg8 .cl).toNat ≠ 0 := fun zero => counts (BitVec.eq_of_toNat_eq zero)
  exact ⟨fun e => changes8_of_shift sound h nonzero (h3 e s), fun e => changes16_of_shift sound h nonzero (h4 e s)⟩

/-! ### A count of 0 -/

/-- A byte written back where it was read changes nothing. -/
theorem poke_loaded (s : State) (a : Addr) (k : Nat) : poke s s.byteAt a (loaded s a k) = s.byteAt := by
  funext x
  unfold poke
  split
  next stored => rw [loaded_ram stored.2, stored.1]
  next => rfl

/-- A word written back where it was read changes nothing. -/
theorem pokeWord_loadedWord (s : State) (g : SegReg) (off : Word) (k : Nat) :
    pokeWord s s.byteAt g off (loadedWord s g off k) = s.byteAt := by
  have low : (loadedWord s g off k).extractLsb' 0 8 = loaded s (s.addr g off) k := lowByte_wordOf _ _
  have high : (loadedWord s g off k).extractLsb' 8 8 =
      loaded s (s.addr g (off + 1)) (k + spent s (s.addr g off)) := highByte_wordOf _ _
  rw [pokeWord, low, high, poke_loaded, poke_loaded]

theorem After.drawBit {b t : State} {bytes : Addr → Byte} {P : Flags → Prop} (a : After b t bytes P) :
    After b t.drawBit.2 bytes P := by
  obtain ⟨f, m, d, n, w, l, rfl, memory, status⟩ := a.fields
  exact ⟨rfl, memory, status⟩

theorem shift8_zero_after (s : State) (h : s.Quiet) (k : Shift) (e : RM Reg8) :
    After s (s.shift8 k e 0) s.byteAt (Same s.flags) := by
  cases e with
  | reg r => exact After.refl s
  | mem m =>
    obtain ⟨value, after⟩ := get8_after s h (s.place (.mem m))
    have drawn := after.drawBit
    unfold State.shift8
    rw [if_pos rfl, value]
    dsimp only
    split
    · have wrote := drawn.writeMem8 h (s.segOf m) (s.ea m) (operand8 s (s.place (.mem m)))
      exact ⟨wrote.frame, fun x => (wrote.memory x).trans (congrFun (poke_loaded s _ _) x), wrote.status⟩
    · exact drawn

theorem shift16_zero_after (s : State) (h : s.Quiet) (k : Shift) (e : RM Reg16) :
    After s (s.shift16 k e 0) s.byteAt (Same s.flags) := by
  cases e with
  | reg r => exact After.refl s
  | mem m =>
    obtain ⟨value, after⟩ := get16_after s h (s.place (.mem m))
    have drawn := after.drawBit
    unfold State.shift16
    rw [if_pos rfl, value]
    dsimp only
    split
    · have wrote := drawn.writeMem16 h (s.segOf m) (s.ea m) (operand16 s (s.place (.mem m)))
      exact ⟨wrote.frame, fun x => (wrote.memory x).trans (congrFun (pokeWord_loadedWord s _ _ _) x), wrote.status⟩
    · exact drawn

end Sys2Proof.Claims

namespace Sys2Proof

open Machine Claims

/-- Settles O34. -/
theorem shifts : Obligations.Shifts :=
  ⟨shiftForms_of shl_sound (fun _ _ => rfl) (fun _ _ => rfl) (fun _ _ => rfl) fun _ _ => rfl,
    shiftForms_of shr_sound (fun _ _ => rfl) (fun _ _ => rfl) (fun _ _ => rfl) fun _ _ => rfl,
    shiftForms_of sar_sound (fun _ _ => rfl) (fun _ _ => rfl) (fun _ _ => rfl) fun _ _ => rfl⟩

/-- Settles O35. -/
theorem rotates : Obligations.Rotates :=
  ⟨shiftForms_of rol_sound (fun _ _ => rfl) (fun _ _ => rfl) (fun _ _ => rfl) fun _ _ => rfl,
    shiftForms_of ror_sound (fun _ _ => rfl) (fun _ _ => rfl) (fun _ _ => rfl) fun _ _ => rfl⟩

/-- Settles O36. -/
theorem rotatesThroughCarry : Obligations.RotatesThroughCarry :=
  ⟨shiftForms_of rcl_sound (fun _ _ => rfl) (fun _ _ => rfl) (fun _ _ => rfl) fun _ _ => rfl,
    shiftForms_of rcr_sound (fun _ _ => rfl) (fun _ _ => rfl) (fun _ _ => rfl) fun _ _ => rfl⟩

/-- Settles O37. -/
theorem shiftByZero : Obligations.ShiftByZero := by
  intro s h zero
  have count : (s.reg8 .cl).toNat = 0 := congrArg BitVec.toNat zero
  constructor
  · intro e i listed
    have runs : ∀ k, exec i s = .next (s.shift8 k e (s.reg8 .cl).toNat) →
        Completes i s fun t => After s t s.byteAt (Same s.flags) := fun k ends =>
      ⟨_, ends, by rw [count]; exact shift8_zero_after s h k e⟩
    simp only [List.mem_cons, List.not_mem_nil, or_false] at listed
    rcases listed with rfl | rfl | rfl | rfl | rfl | rfl | rfl
    · exact runs .rol rfl
    · exact runs .ror rfl
    · exact runs .rcl rfl
    · exact runs .rcr rfl
    · exact runs .shl rfl
    · exact runs .shr rfl
    · exact runs .sar rfl
  · intro e i listed
    have runs : ∀ k, exec i s = .next (s.shift16 k e (s.reg8 .cl).toNat) →
        Completes i s fun t => After s t s.byteAt (Same s.flags) := fun k ends =>
      ⟨_, ends, by rw [count]; exact shift16_zero_after s h k e⟩
    simp only [List.mem_cons, List.not_mem_nil, or_false] at listed
    rcases listed with rfl | rfl | rfl | rfl | rfl | rfl | rfl
    · exact runs .rol rfl
    · exact runs .ror rfl
    · exact runs .rcl rfl
    · exact runs .rcr rfl
    · exact runs .shl rfl
    · exact runs .shr rfl
    · exact runs .sar rfl

end Sys2Proof

/-! ## String instructions

One element moves or is compared, the index registers go on, and the armed repeat says whether more are to come (R430 to
R436). -/

namespace Sys2Proof.Claims

open Machine

variable {b t : State} {bytes : Addr → Byte} {P : Flags → Prop}

/-- An index register goes on past an element. -/
theorem After.advance (a : After b t bytes P) {s : State} (df : t.flags.df = s.flags.df) (r : Reg16) (n : Word) :
    After { b with regs := b.regs.put16 r (moved s (b.regs.get16 r) n) } (t.advance r n) bytes P := by
  have index : t.reg16 r = b.regs.get16 r := congrArg (fun u => u.regs.get16 r) a.frame
  rw [State.advance, df, index]
  exact a.setReg16 r _

/-- A comparison does not change DF. -/
theorem diff_df {n : Nat} {f : Flags} {x y r : BitVec n} {g : Flags} (diff : Diff false n f x y r g) : g.df = f.df :=
  diff.kept.2.2

/-! ### Under a repeat -/

theorem counted_of_plain {s : State} (plain : s.armed.rep = none) (g : Regs) : counted s g = g := if_pos plain

theorem counted_of_prefix {s : State} {z : Rep} (prefixed : s.armed.rep = some z) (g : Regs) :
    counted s g = g.put16 .cx (s.regs.cx - 1) := if_neg (by rw [prefixed]; simp)

/-- The loop ends when CX has reached 0, or ZF is not what the armed repeat asks of a comparison. -/
theorem loop_ends_iff (cx : Word) (compares zf : Bool) (z : Rep) :
    (decide (cx - 1 = 0) || (compares && zf != repeatsWhile z)) = true ↔
      cx = 1 ∨ (compares = true ∧ (zf = true ↔ z = .repne)) := by
  have counts : cx - 1 = 0 ↔ cx = 1 := by bv_omega
  rw [Bool.or_eq_true, decide_eq_true_iff, counts, Bool.and_eq_true]
  cases zf <;> cases z <;> simp [repeatsWhile]

/-- One iteration of a string instruction, from what one element does. -/
theorem repeated_after {s : State} (h : Iterates s) (i : Instr) (compares : Bool) (iteration : State → State) {g : Regs}
    (ran : After { s with regs := g } (iteration s) bytes P) (cx : g.cx = s.regs.cx) :
    ∃ u, s.repeated i compares iteration = .next u ∧ After (iterated s i compares u.flags.zf g) u bytes P := by
  obtain ⟨f, m, d, n, w, l, same, memory, status⟩ := ran.fields
  unfold State.repeated iterated goesOn
  cases rep : s.armed.rep with
  | none =>
    refine ⟨_, rfl, ?_⟩
    rw [counted_of_plain rep]
    exact ran
  | some z =>
    have count : ((iteration s).decCx).reg16 .cx = s.regs.cx - 1 := by
      rw [same]
      show g.cx - 1 = s.regs.cx - 1
      rw [cx]
    have regs : (iteration s).decCx = { iteration s with regs := counted s g } := by
      rw [counted_of_prefix rep, same]
      show { s with regs := g.put16 .cx (g.cx - 1), flags := f, mem := m, draws := d, floats := n, waits := w,
                    log := l } = _
      rw [cx]
    have counts : s.reg16 .cx ≠ 0 := h.2 (by rw [rep]; simp)
    dsimp only
    rw [if_neg counts, count, regs]
    by_cases ends : s.regs.cx = 1 ∨ (compares = true ∧ ((iteration s).flags.zf = true ↔ z = .repne))
    · rw [if_pos ((loop_ends_iff _ _ _ _).mpr ends)]
      refine ⟨_, rfl, ?_⟩
      dsimp only
      rw [if_pos ends, same]
      exact ⟨rfl, memory, status⟩
    · rw [if_neg ((loop_ends_iff _ _ _ _).not.mpr ends)]
      refine ⟨_, rfl, ?_⟩
      dsimp only
      rw [if_neg ends, same]
      exact ⟨rfl, memory, status⟩

/-- The same where the flags do not change. -/
theorem repeated_same {s : State} (h : Iterates s) (i : Instr) (iteration : State → State) {g : Regs}
    (ran : After { s with regs := g } (iteration s) bytes (Same s.flags)) (cx : g.cx = s.regs.cx) :
    ∃ u, s.repeated i false iteration = .next u ∧ After (iterated s i false s.flags.zf g) u bytes (Same s.flags) := by
  obtain ⟨u, ends, after⟩ := repeated_after h i false iteration ran cx
  rw [show u.flags = s.flags from after.status] at after
  exact ⟨u, ends, after⟩

/-- The same for a comparison. -/
theorem repeated_diff {s : State} (h : Iterates s) (i : Instr) (iteration : State → State) {g : Regs} {n : Nat}
    {x y r : BitVec n} (ran : After { s with regs := g } (iteration s) bytes (Diff false n s.flags x y r))
    (cx : g.cx = s.regs.cx) : ∃ u, s.repeated i true iteration = .next u ∧ ∃ r,
      After (iterated s i true u.flags.zf g) u bytes (Diff false n s.flags x y r) := by
  obtain ⟨u, ends, after⟩ := repeated_after h i true iteration ran cx
  exact ⟨u, ends, r, after⟩

/-! ### One element -/

section Elements

variable (s : State) (h : s.Quiet)

include h

theorem movs8_after : After { s with regs := bothMoved s 1 } s.movs8
    (poke s s.byteAt (s.addr .es s.regs.di) (operand8 s (.mem (sourceSeg s) s.regs.si))) (Same s.flags) := by
  obtain ⟨value, read⟩ := get8_after s h (.mem (sourceSeg s) s.regs.si)
  have di : (s.get8 (.mem (sourceSeg s) s.regs.si)).2.reg16 .di = s.regs.di := get8_reg16 s _ .di
  have wrote := read.writeMem8 h .es s.regs.di (operand8 s (.mem (sourceSeg s) s.regs.si))
  have first := wrote.advance (s := s) (congrArg (·.df) wrote.status) .si 1
  have both := first.advance (s := s) (congrArg (·.df) first.status) .di 1
  show After _ (State.advance (State.advance (State.writeMem8 (s.get8 (.mem (sourceSeg s) s.regs.si)).2 .es
    ((s.get8 (.mem (sourceSeg s) s.regs.si)).2.reg16 .di) (s.get8 (.mem (sourceSeg s) s.regs.si)).1) .si 1) .di 1) _ _
  rw [value, di]
  exact both

theorem movs16_after : After { s with regs := bothMoved s 2 } s.movs16
    (pokeWord s s.byteAt .es s.regs.di (operand16 s (.mem (sourceSeg s) s.regs.si))) (Same s.flags) := by
  obtain ⟨value, read⟩ := get16_after s h (.mem (sourceSeg s) s.regs.si)
  have di : (s.get16 (.mem (sourceSeg s) s.regs.si)).2.reg16 .di = s.regs.di := get16_reg16 s _ .di
  have wrote := read.writeMem16 h .es s.regs.di (operand16 s (.mem (sourceSeg s) s.regs.si))
  have first := wrote.advance (s := s) (congrArg (·.df) wrote.status) .si 2
  have both := first.advance (s := s) (congrArg (·.df) first.status) .di 2
  show After _ (State.advance (State.advance (State.writeMem16 (s.get16 (.mem (sourceSeg s) s.regs.si)).2 .es
    ((s.get16 (.mem (sourceSeg s) s.regs.si)).2.reg16 .di) (s.get16 (.mem (sourceSeg s) s.regs.si)).1) .si 2) .di 2) _ _
  rw [value, di]
  exact both

theorem stos8_after : After { s with regs := s.regs.put16 .di (moved s s.regs.di 1) } s.stos8
    (poke s s.byteAt (s.addr .es s.regs.di) (s.reg8 .al)) (Same s.flags) := by
  have wrote := (After.refl s).writeMem8 h .es s.regs.di (s.reg8 .al)
  exact wrote.advance (s := s) (congrArg (·.df) wrote.status) .di 1

theorem stos16_after : After { s with regs := s.regs.put16 .di (moved s s.regs.di 2) } s.stos16
    (pokeWord s s.byteAt .es s.regs.di s.regs.ax) (Same s.flags) := by
  have wrote := (After.refl s).writeMem16 h .es s.regs.di s.regs.ax
  exact wrote.advance (s := s) (congrArg (·.df) wrote.status) .di 2

theorem lods8_after : After { s with
      regs := (s.regs.put8 .al (operand8 s (.mem (sourceSeg s) s.regs.si))).put16 .si (moved s s.regs.si 1) } s.lods8
    s.byteAt (Same s.flags) := by
  obtain ⟨value, read⟩ := get8_after s h (.mem (sourceSeg s) s.regs.si)
  have loaded := read.setReg8 .al (operand8 s (.mem (sourceSeg s) s.regs.si))
  show After _ (State.advance (State.setReg8 (s.get8 (.mem (sourceSeg s) s.regs.si)).2 .al
    (s.get8 (.mem (sourceSeg s) s.regs.si)).1) .si 1) _ _
  rw [value]
  exact loaded.advance (s := s) (congrArg (·.df) loaded.status) .si 1

theorem lods16_after : After { s with
      regs := (s.regs.put16 .ax (operand16 s (.mem (sourceSeg s) s.regs.si))).put16 .si (moved s s.regs.si 2) } s.lods16
    s.byteAt (Same s.flags) := by
  obtain ⟨value, read⟩ := get16_after s h (.mem (sourceSeg s) s.regs.si)
  have loaded := read.setReg16 .ax (operand16 s (.mem (sourceSeg s) s.regs.si))
  show After _ (State.advance (State.setReg16 (s.get16 (.mem (sourceSeg s) s.regs.si)).2 .ax
    (s.get16 (.mem (sourceSeg s) s.regs.si)).1) .si 2) _ _
  rw [value]
  exact loaded.advance (s := s) (congrArg (·.df) loaded.status) .si 2

/-- The free value a comparison of bytes takes first at its second element: the one after those of the element at SI. -/
def floatsAtSecond8 (s : State) : Nat := s.floats + spent s (s.addr (sourceSeg s) s.regs.si)

/-- The byte at ES:DI, read after the one at SI. -/
def comparand8 (s : State) : Byte := loaded s (s.addr .es s.regs.di) (floatsAtSecond8 s)

/-- The free value a comparison of words takes first at its second element. -/
def floatsAtSecond16 (s : State) : Nat := s.floats + spentWord s (sourceSeg s) s.regs.si

/-- The word at ES:DI, read after the one at SI. -/
def comparand16 (s : State) : Word := loadedWord s .es s.regs.di (floatsAtSecond16 s)

/-- `CMPS` reads the element at SI first. -/
theorem cmps8_after : After { s with regs := bothMoved s 1 } s.cmps8 s.byteAt
    (Diff false 8 s.flags (operand8 s (.mem (sourceSeg s) s.regs.si)) (comparand8 s)
      (diffOf (operand8 s (.mem (sourceSeg s) s.regs.si)) (comparand8 s) false)) := by
  obtain ⟨l, read⟩ : ∃ l, s.readMem8 (s.overridden .ds) (s.reg16 .si) =
      (operand8 s (.mem (sourceSeg s) s.regs.si), { s with floats := floatsAtSecond8 s, waits := 0, log := l }) :=
    readMem8_loads s h (sourceSeg s) s.regs.si
  obtain ⟨l', read'⟩ := readMem8_loads { s with floats := floatsAtSecond8 s, waits := 0, log := l } h .es s.regs.di
  have compared := ((After.refl s).read (floatsAtSecond8 s + spent s (s.addr .es s.regs.di)) 0 l').setFlags
    (s.flags.diff (operand8 s (.mem (sourceSeg s) s.regs.si)) (comparand8 s) false)
    (diff_sound byteWide false s.flags _ _)
  have first := compared.advance (s := s) (diff_df compared.status) .si 1
  have both := first.advance (s := s) (diff_df first.status) .di 1
  unfold State.cmps8
  rw [read]
  dsimp only
  have di : ∀ c w l, ({ s with floats := c, waits := w, log := l } : State).reg16 .di = s.regs.di := fun _ _ _ => rfl
  rw [di, read']
  exact both

theorem cmps16_after : After { s with regs := bothMoved s 2 } s.cmps16 s.byteAt
    (Diff false 16 s.flags (operand16 s (.mem (sourceSeg s) s.regs.si)) (comparand16 s)
      (diffOf (operand16 s (.mem (sourceSeg s) s.regs.si)) (comparand16 s) false)) := by
  obtain ⟨l, read⟩ : ∃ l, s.readMem16 (s.overridden .ds) (s.reg16 .si) =
      (operand16 s (.mem (sourceSeg s) s.regs.si), { s with floats := floatsAtSecond16 s, waits := 0, log := l }) :=
    readMem16_loads s h (sourceSeg s) s.regs.si
  obtain ⟨l', read'⟩ := readMem16_loads { s with floats := floatsAtSecond16 s, waits := 0, log := l } h .es s.regs.di
  have compared := ((After.refl s).read (floatsAtSecond16 s + spentWord s .es s.regs.di) 0 l').setFlags
    (s.flags.diff (operand16 s (.mem (sourceSeg s) s.regs.si)) (comparand16 s) false)
    (diff_sound wordWide false s.flags _ _)
  have first := compared.advance (s := s) (diff_df compared.status) .si 2
  have both := first.advance (s := s) (diff_df first.status) .di 2
  unfold State.cmps16
  rw [read]
  dsimp only
  have di : ∀ c w l, ({ s with floats := c, waits := w, log := l } : State).reg16 .di = s.regs.di := fun _ _ _ => rfl
  rw [di, read']
  exact both

theorem scas8_after : After { s with regs := s.regs.put16 .di (moved s s.regs.di 1) } s.scas8 s.byteAt
    (Diff false 8 s.flags (s.reg8 .al) (operand8 s (.mem .es s.regs.di))
      (diffOf (s.reg8 .al) (operand8 s (.mem .es s.regs.di)) false)) := by
  obtain ⟨l, read⟩ := readMem8_loads s h .es s.regs.di
  have compared := ((After.refl s).read (s.floats + spent s (s.addr .es s.regs.di)) 0 l).setFlags
    (s.flags.diff (s.reg8 .al) (operand8 s (.mem .es s.regs.di)) false) (diff_sound byteWide false s.flags _ _)
  unfold State.scas8
  rw [show s.readMem8 .es (s.reg16 .di) = _ from read]
  exact compared.advance (s := s) (diff_df compared.status) .di 1

theorem scas16_after : After { s with regs := s.regs.put16 .di (moved s s.regs.di 2) } s.scas16 s.byteAt
    (Diff false 16 s.flags s.regs.ax (operand16 s (.mem .es s.regs.di))
      (diffOf s.regs.ax (operand16 s (.mem .es s.regs.di)) false)) := by
  obtain ⟨l, read⟩ := readMem16_loads s h .es s.regs.di
  have compared := ((After.refl s).read (s.floats + spentWord s .es s.regs.di) 0 l).setFlags
    (s.flags.diff s.regs.ax (operand16 s (.mem .es s.regs.di)) false) (diff_sound wordWide false s.flags _ _)
  unfold State.scas16
  rw [show s.readMem16 .es (s.reg16 .di) = _ from read]
  exact compared.advance (s := s) (diff_df compared.status) .di 2

end Elements

end Sys2Proof.Claims

namespace Sys2Proof

open Machine Claims

/-- Settles O45. -/
theorem stringMoves : Obligations.StringMoves := fun s h =>
  ⟨repeated_same h .movsb State.movs8 (movs8_after s h.1) rfl,
    repeated_same h .movsw State.movs16 (movs16_after s h.1) rfl,
    repeated_same h .stosb State.stos8 (stos8_after s h.1) rfl,
    repeated_same h .stosw State.stos16 (stos16_after s h.1) rfl,
    repeated_same h .lodsb State.lods8 (lods8_after s h.1) rfl,
    repeated_same h .lodsw State.lods16 (lods16_after s h.1) rfl⟩

/-- Settles O46. -/
theorem stringCompares : Obligations.StringCompares := fun s h =>
  ⟨repeated_diff h .cmpsb State.cmps8 (cmps8_after s h.1) rfl,
    repeated_diff h .cmpsw State.cmps16 (cmps16_after s h.1) rfl,
    repeated_diff h .scasb State.scas8 (scas8_after s h.1) rfl,
    repeated_diff h .scasw State.scas16 (scas16_after s h.1) rfl⟩

end Sys2Proof

/-! ## Interrupts: recognition and return

The sequence taken at a boundary, with its acknowledge cycles, and the return that undoes it (R477, R524 to R532). -/

namespace Sys2Proof.Machine

/-- Nothing happens beside the CPU, and cycles already run stay in the log. -/
structure QuietAfter (cs : List BusCycle) (s : State) : Prop where
  quiet : s.Quiet
  ran : cs <+: s.log.cycles

theorem QuietAfter.cycle {cs : List BusCycle} {s : State} (h : QuietAfter cs s) {f : State → Lanes × State}
    (moves : Moves f) (pt : Point) (k : BusKind) (a : Option Addr) (g : Option SegReg) :
    QuietAfter cs (s.cycle pt k a g f).2 := by
  obtain ⟨l, m, d, n, acts⟩ := moves.beside s
  rw [s.cycle_of_quiet h.quiet, show f s = _ from acts s.flight]
  exact ⟨h.quiet, h.ran.trans (List.prefix_append _ _)⟩

/-- What instructions and interrupt sequences do where nothing happens beside the CPU. -/
theorem kept_quietAfter (cs : List BusCycle) : Kept (QuietAfter cs) where
  own := fun h _ _ _ _ _ _ _ _ => ⟨h.quiet, h.ran⟩
  arm := fun h _ _ => ⟨h.quiet, h.ran⟩
  lock := fun h => ⟨h.quiet, h.ran⟩
  goOn := fun h _ _ => ⟨h.quiet, h.ran⟩
  cycle := fun h _ moves pt k a g => h.cycle moves pt k a g
  flush := fun {s} h => by
    rw [s.flushQueue_of_quiet h.quiet]
    exact ⟨h.quiet, h.ran⟩

theorem exec_quiet {i : Instr} {s t : State} (h : s.Quiet) (ends : exec i s = .next t) : t.Quiet :=
  ((kept_quietAfter []).exec ⟨h, List.nil_prefix⟩ ends).quiet

/-! ### Recognition -/

/-- The state the sequence of what is due begins in. -/
def State.recognised (s : State) (d : Due) : State := { (s.beginTurn []).accept d with midway := none }

theorem State.recognised_eq (s : State) (d : Due) : ({ (s.beginTurn []).accept d with
    midway := none, flight := { ((s.beginTurn []).accept d).flight with again := [] } } : State) = s.recognised d := rfl

theorem service_quietAfter {cs : List BusCycle} {s : State} (h : QuietAfter cs s) (d : Due) :
    QuietAfter cs (s.service d) := by
  have kept := kept_quietAfter cs
  have abandoned : QuietAfter cs s.abandon := ⟨h.quiet, h.ran⟩
  cases d with
  | nmi => exact kept.interrupt abandoned _ _ _
  | intr => exact kept.interrupt (kept.acknowledge abandoned) _ _ _
  | trap => exact kept.interrupt abandoned _ _ _

theorem State.perform_service (s : State) (d : Due) :
    s.perform .layerG (.service d) = .next (s.service d) := rfl

/-- A task that came to its end. -/
theorem carry_of_perform {s t : State} {task : Task} {past : List Lanes}
    (run : State.perform .layerG { s with midway := none, flight := { s.flight with again := past } } task = .next t)
    (calm : t.flight.stalled = none) : s.carry .layerG task past = .next t := by
  unfold State.carry
  rw [run]
  dsimp only
  rw [calm]

theorem endTurn_of_quiet {t : State} (h : t.Quiet) : t.endTurn = t := by
  unfold State.endTurn
  rw [h.1, if_neg (by simp [Flight.idle]), ← h.1]

/-- A turn of a CPU beside which nothing happens. -/
theorem step_of_cpuTurn {s t : State} (script : s.script = []) (turn : s.cpuTurn .layerG [] = .next t) (h : t.Quiet) :
    step s = .next t := by
  rw [step_of_script_nil script, State.alone, turn]
  dsimp only
  rw [endTurn_of_quiet h, if_neg (by rw [h.1]; simp [Flight.idle])]

/-- A turn that services what is due, nothing being in its way. -/
theorem step_of_due {s : State} {d : Due} (script : s.script = []) (midway : s.midway = none) (hung : s.hung = false)
    (owner : s.owner = .cpu) (due : s.due = some d) : step s = .next ((s.recognised d).service d) := by
  have quiet : ((s.recognised d).service d).Quiet :=
    (service_quietAfter (s := s.recognised d) (cs := []) ⟨⟨rfl, hung, owner⟩, List.nil_prefix⟩ d).quiet
  have carried : ((s.beginTurn []).accept d).carry .layerG (.service d) [] = .next ((s.recognised d).service d) := by
    apply carry_of_perform
    · rw [s.recognised_eq d]
      exact State.perform_service _ _
    · rw [quiet.1]
      rfl
  refine step_of_cpuTurn script ?_ quiet
  unfold State.cpuTurn State.turn
  rw [show (s.beginTurn []).midway = none from midway, show (s.beginTurn []).due = some d from due]
  exact carried

/-- The two acknowledge cycles. -/
theorem State.acknowledge_of_quiet (s : State) (h : s.Quiet) : s.acknowledge = (s.pins.intType, { s with
    waits := 0
    log := s.logged [Claims.ackCycle s none s.waits, Claims.ackCycle s (some s.pins.intType) 0] }) := by
  unfold State.acknowledge
  dsimp only
  rw [s.cycle_of_quiet h]
  dsimp only
  rw [State.cycle_of_quiet (s.record (s.busCycle .inta none none .none)) h]
  unfold State.logged
  rw [show [Claims.ackCycle s none s.waits, Claims.ackCycle s (some s.pins.intType) 0] =
    [Claims.ackCycle s none s.waits] ++ [Claims.ackCycle s (some s.pins.intType) 0] from rfl, ← List.append_assoc]
  rfl

end Sys2Proof.Machine

namespace Sys2Proof.Claims

open Machine

theorem deaf_of_listens {s : State} (h : Listens s) : s.deaf = false := by
  obtain ⟨-, -, -, -, started, pending, shadow, wait⟩ := h
  unfold State.deaf
  rw [started, pending]
  simpa using ⟨shadow, fun waits => by simpa using fun test => wait ⟨waits, test⟩⟩

/-- What the sequence begins from: the instruction in progress given up. -/
theorem abandon_recognised {s : State} (midway : s.midway = none) {d : Due} (latch : s.nmiLatch = false ∨ d = .nmi) :
    (s.recognised d).abandon = { givenUp s false with halted := false, log := .empty } := by
  have unlatched : (s.nmiLatch && decide (d ≠ .nmi)) = false := by
    rcases latch with off | rfl
    · rw [off, Bool.false_and]
    · simp
  show ({ givenUp s (s.nmiLatch && decide (d ≠ .nmi)) with halted := false, log := .empty, midway := none } : State) = _
  rw [unlatched, ← midway]
  rfl

theorem savedOffset_eq (s : State) (d : Due) : (s.recognised d).returnOffset = savedOffset s := by
  unfold State.returnOffset savedOffset State.recognised State.accept State.beginTurn
  rfl

/-- The sequence does not look at the log, nor at whether the CPU was halted. -/
theorem Interrupted.of_log {u t : State} {n : Byte} {rcs rip : Word} {b : Bool} {w : Nat} {l : Log}
    (i : Interrupted { u with halted := b, waits := w, log := l } t n rcs rip) : Interrupted u t n rcs rip := i

/-! ### The return -/

/-- Two offsets of a segment are two addresses. -/
theorem addr_inj (s : State) (g : SegReg) {x y : Word} : s.addr g x = s.addr g y ↔ x = y := by
  unfold State.addr phys
  generalize s.segReg g = w
  constructor
  · intro same
    bv_omega
  · rintro rfl
    rfl

/-- The word that bytes hold at an offset. -/
def wordAt (s : State) (bytes : Addr → Byte) (g : SegReg) (off : Word) : Word :=
  bytes (s.addr g (off + 1)) ++ bytes (s.addr g off)

/-- A word of RAM. -/
def InRam (s : State) (g : SegReg) (off : Word) : Prop :=
  s.kindAt (s.addr g off) = .ram ∧ s.kindAt (s.addr g (off + 1)) = .ram

theorem loadedWord_ram {s : State} {g : SegReg} {off : Word} (ram : InRam s g off) (n : Nat) :
    loadedWord s g off n = wordAt s s.byteAt g off := by
  rw [loadedWord, loaded_ram ram.1, loaded_ram ram.2, wordAt]

theorem wordAt_pokeWord_same {s : State} {g : SegReg} {off : Word} (ram : InRam s g off) (bytes : Addr → Byte)
    (v : Word) :
    wordAt s (pokeWord s bytes g off v) g off = v := by
  unfold wordAt pokeWord poke
  rw [if_pos ⟨rfl, ram.2⟩, if_neg fun both => s.addr_ne_next g off both.1, if_pos ⟨rfl, ram.1⟩]
  exact wordOf_bytes v

theorem wordAt_pokeWord_other (s : State) {g : SegReg} {off off' : Word} (apart : off' ≠ off) (below : off' + 1 ≠ off)
    (above : off' ≠ off + 1) (bytes : Addr → Byte) (v : Word) :
    wordAt s (pokeWord s bytes g off v) g off' = wordAt s bytes g off' := by
  have next : off' + 1 ≠ off + 1 := fun same => apart (add_right_cancel same)
  unfold wordAt pokeWord poke
  rw [if_neg fun both => next ((addr_inj s g).mp both.1), if_neg fun both => below ((addr_inj s g).mp both.1),
    if_neg fun both => above ((addr_inj s g).mp both.1), if_neg fun both => apart ((addr_inj s g).mp both.1)]

/-- The three words of the frame, read back upwards. -/
theorem framed_words {s : State} (ram : FrameInRam s) (rcs rip : Word) :
    wordAt s (framed s rcs rip) .ss (s.regs.sp - 6) = rip ∧ wordAt s (framed s rcs rip) .ss (s.regs.sp - 6 + 2) = rcs ∧
      wordAt s (framed s rcs rip) .ss (s.regs.sp - 6 + 4) = s.flags.image := by
  have bytes : ∀ k k' : Nat, k < 6 → k' < 6 → ∀ off, off = s.regs.sp - 6 + BitVec.ofNat 16 k →
      off + 1 = s.regs.sp - 6 + BitVec.ofNat 16 k' → InRam s .ss off := by
    intro k k' below below' off at_ next
    exact ⟨at_ ▸ ram k below, next ▸ ram k' below'⟩
  have flags : InRam s .ss (s.regs.sp - 2) := bytes 4 5 (by omega) (by omega) _ (by bv_omega) (by bv_omega)
  have cs : InRam s .ss (s.regs.sp - 4) := bytes 2 3 (by omega) (by omega) _ (by bv_omega) (by bv_omega)
  have ip : InRam s .ss (s.regs.sp - 6) := bytes 0 1 (by omega) (by omega) _ (by bv_omega) (by bv_omega)
  unfold framed
  refine ⟨wordAt_pokeWord_same ip _ _, ?_, ?_⟩
  · rw [wordAt_pokeWord_other s (by bv_omega) (by bv_omega) (by bv_omega),
      show s.regs.sp - 6 + 2 = s.regs.sp - 4 by bv_omega]
    exact wordAt_pokeWord_same cs _ _
  · rw [wordAt_pokeWord_other s (by bv_omega) (by bv_omega) (by bv_omega),
      wordAt_pokeWord_other s (by bv_omega) (by bv_omega) (by bv_omega),
      show s.regs.sp - 6 + 4 = s.regs.sp - 2 by bv_omega]
    exact wordAt_pokeWord_same flags _ _

/-- `IRET` after an interrupt sequence. -/
theorem return_undoes {s t : State} (h : s.Quiet) (ram : FrameInRam s) {n : Byte} {rcs rip : Word}
    (taken : Interrupted s t n rcs rip) : ∃ u, exec .iret t = .next u ∧ u.regs = s.regs ∧ u.segs = s.segs.put .cs rcs ∧
      u.ip = rip ∧ u.flags = s.flags := by
  obtain ⟨cs, ip, same, bytes, -⟩ := taken
  have quiet : t.Quiet := by
    rw [same]
    exact h
  have sp : t.regs.sp = s.regs.sp - 6 := congrArg (·.regs.sp) same
  have regs : t.regs = s.regs.put16 .sp (s.regs.sp - 6) := congrArg (·.regs) same
  have segs : t.segs = s.segs.put .cs cs := congrArg (·.segs) same
  have params : t.params = s.params := congrArg (·.params) same
  have frame : t.byteAt = framed s rcs rip := funext bytes
  have addr : ∀ off, t.addr .ss off = s.addr .ss off := fun off => by
    unfold State.addr State.segReg
    rw [segs]
    rfl
  have words : ∀ k k' : Nat, k < 6 → k' < 6 → ∀ off n, off = s.regs.sp - 6 + BitVec.ofNat 16 k →
      off + 1 = s.regs.sp - 6 + BitVec.ofNat 16 k' →
        loadedWord t .ss off n = wordAt s (framed s rcs rip) .ss off := by
    intro k k' below below' off n at_ next
    have inRam : InRam t .ss off := by
      unfold InRam State.kindAt
      rw [addr, addr, params]
      exact ⟨at_ ▸ ram k below, next ▸ ram k' below'⟩
    rw [loadedWord_ram inRam, wordAt, addr, addr, frame, wordAt]
  obtain ⟨ipWord, csWord, flagsWord⟩ := framed_words ram rcs rip
  have after := interruptReturn_after t quiet
  rw [sp, words 0 1 (by omega) (by omega) (s.regs.sp - 6) _ (by bv_omega) (by bv_omega),
    words 2 3 (by omega) (by omega) (s.regs.sp - 6 + 2) _ (by bv_omega) (by bv_omega),
    words 4 5 (by omega) (by omega) (s.regs.sp - 6 + 4) _ (by bv_omega) (by bv_omega), ipWord, csWord,
      flagsWord, ofImage_image] at after
  refine ⟨_, rfl, ?_, ?_, ?_, after.status⟩
  · rw [show t.interruptReturn.regs = t.regs.put16 .sp (s.regs.sp - 6 + 6) from congrArg (·.regs) after.frame, regs,
      show s.regs.sp - 6 + 6 = s.regs.sp by bv_omega]
    rfl
  · rw [show t.interruptReturn.segs = t.segs.put .cs rcs from congrArg (·.segs) after.frame, segs]
    rfl
  · exact congrArg (·.ip) after.frame


end Sys2Proof.Claims

namespace Sys2Proof

open Machine Claims

/-- Settles O54. -/
theorem returnUndoesInterrupt : Obligations.ReturnUndoesInterrupt := by
  intro s h ram
  refine ⟨fun t n rcs rip taken => return_undoes h ram taken, fun i which => ?_⟩
  have resumes : ∀ n, exec i s = .next (s.raise n) → ∃ t u, exec i s = .next t ∧ exec .iret t = .next u ∧
      u.regs = s.regs ∧ u.segs = s.segs ∧ u.ip = s.ip ∧ u.flags = s.flags := by
    intro n ends
    obtain ⟨u, back, regs, segs, ip, flags⟩ :=
      return_undoes h ram (interrupt_interrupted s h n (s.segReg .cs) s.ip)
    exact ⟨_, u, ends, back, regs, segs, ip, flags⟩
  rcases which with ⟨n, rfl⟩ | rfl | ⟨rfl, overflow⟩
  · exact resumes n rfl
  · exact resumes 3 rfl
  · exact resumes 4 (if_pos overflow)

/-- Settles O55. -/
theorem recognition : Obligations.Recognition := by
  intro s h
  have deaf := deaf_of_listens h
  obtain ⟨script, midway, hung, owner, -⟩ := h
  have steps : ∀ {d}, s.due = some d → step s = .next ((s.recognised d).service d) := fun due =>
    step_of_due script midway hung owner due
  have quiet : ∀ w l, State.Quiet { givenUp s false with halted := false, waits := w, log := l } :=
    fun w l => ⟨rfl, hung, owner⟩
  refine ⟨fun latch => ?_, fun latch intr => ?_, fun latch intr trap => ?_⟩
  · have due : s.due = some .nmi := by
      rw [State.due, deaf, latch]
      rfl
    refine ⟨_, steps due, ?_⟩
    unfold State.service
    rw [abandon_recognised midway (.inr rfl), savedOffset_eq]
    exact (interrupt_interrupted _ (quiet s.waits .empty) 2 _ _).of_log
  · have due : s.due = some .intr := by
      obtain ⟨level, enabled, shadow⟩ := intr
      rw [State.due, deaf, latch, level, enabled, decide_eq_true shadow]
      rfl
    refine ⟨_, steps due, ?_⟩
    unfold State.service
    rw [abandon_recognised midway (.inl latch), savedOffset_eq]
    dsimp only
    rw [show State.acknowledge { givenUp s false with halted := false, log := .empty } = (s.pins.intType,
      { givenUp s false with halted := false, waits := 0, log := { Log.empty with
        cycles := [ackCycle s none s.waits, ackCycle s (some s.pins.intType) 0] } })
      from State.acknowledge_of_quiet _ (quiet s.waits .empty)]
    have ran := (kept_quietAfter [ackCycle s none s.waits, ackCycle s (some s.pins.intType) 0]).interrupt
      (s := { givenUp s false with halted := false, waits := 0, log := { Log.empty with
        cycles := [ackCycle s none s.waits, ackCycle s (some s.pins.intType) 0] } })
      ⟨quiet 0 _, List.prefix_rfl⟩ s.pins.intType s.segs.cs (savedOffset s)
    exact ⟨(List.prefix_iff_eq_take.mp ran.ran).symm, (interrupt_interrupted _ (quiet 0 _) _ _ _).of_log⟩
  · have due : s.due = some .trap := by
      have masked : (s.pins.intr && s.flags.ifl && decide (s.shadow ≠ .intr)) = false := by
        refine Bool.eq_false_iff.mpr fun all => intr ?_
        rw [Bool.and_eq_true, Bool.and_eq_true, decide_eq_true_iff, and_assoc] at all
        exact all
      rw [State.due, deaf, latch, masked]
      exact if_pos trap
    refine ⟨_, steps due, ?_⟩
    unfold State.service
    rw [abandon_recognised midway (.inl latch), savedOffset_eq]
    exact (interrupt_interrupted _ (quiet s.waits .empty) 1 _ _).of_log

end Sys2Proof

/-! ## The taking of an instruction

Bytes are taken from the queue, which fetch cycles fill from memory, until they are a whole instruction; then it runs,
and the boundary after it is left (R45, R46, R260, R272, R527). -/

namespace Sys2Proof.Machine

/-! ### No part of an instruction is one -/

/-- The first bytes of an instruction are not one themselves. -/
theorem decode_part {i : Instr} (wf : i.wf = true) {k : Nat} (part : k < (encode i).length) :
    decode ((encode i).take k) = none := by
  cases read : decode ((encode i).take k) with
  | none => rfl
  | some d =>
    obtain ⟨wf', bytes⟩ := encodeOfDecode _ d.2 d.1 read
    have whole : encode i = encode d.1 ++ (d.2 ++ (encode i).drop k) := by
      rw [← List.append_assoc, ← bytes, List.take_append_drop]
    have first := decodeOfEncode i [] wf
    rw [List.append_nil, whole, decodeOfEncode _ _ wf'] at first
    have rest : d.2 ++ (encode i).drop k = [] := congrArg Prod.snd (Option.some.inj first)
    have left := congrArg List.length rest
    rw [List.length_append, List.length_drop, List.length_nil] at left
    omega

theorem encode_length_pos {i : Instr} (wf : i.wf = true) : 0 < (encode i).length := by
  have read := decodeOfEncode i [] wf
  rw [List.append_nil] at read
  refine List.length_pos_of_ne_nil fun none => ?_
  rw [none] at read
  simp [decode] at read

theorem encode_length_le {i : Instr} (wf : i.wf = true) : (encode i).length ≤ 6 := by
  by_contra long
  obtain ⟨j, rest, read, -⟩ := sixBytesDecode ((encode i).take 6) (by rw [List.length_take]; omega)
  rw [decode_part wf (by omega)] at read
  simp at read

/-! ### Fetch cycles -/

/-- Bytes are those of the code segment from an offset on, where memory is installed. -/
def State.Holds (s : State) (off : Word) (bytes : List Byte) : Prop :=
  ∀ j, (inside : j < bytes.length) → s.kindAt (s.addr .cs (off + BitVec.ofNat 16 j)) ≠ .absent →
    bytes[j] = s.byteAt (s.addr .cs (off + BitVec.ofNat 16 j))

theorem State.holds_one {s : State} {off : Word} {b : Byte}
    (first : s.kindAt (s.addr .cs off) ≠ .absent → b = s.byteAt (s.addr .cs off)) : s.Holds off [b] := by
  intro j inside there
  obtain rfl : j = 0 := by simpa using inside
  rw [show off + BitVec.ofNat 16 0 = off by bv_omega] at there ⊢
  exact first there

theorem State.holds_two {s : State} {off : Word} {b b' : Byte}
    (first : s.kindAt (s.addr .cs off) ≠ .absent → b = s.byteAt (s.addr .cs off))
    (second : s.kindAt (s.addr .cs (off + 1)) ≠ .absent → b' = s.byteAt (s.addr .cs (off + 1))) :
    s.Holds off [b, b'] := by
  intro j inside there
  match j with
  | 0 =>
    rw [show off + BitVec.ofNat 16 0 = off by bv_omega] at there ⊢
    exact first there
  | 1 => exact second there
  | j + 2 => simp at inside

theorem State.readByte_there {s : State} {a : Addr} (there : s.kindAt a ≠ .absent) : (s.readByte a).1 = s.byteAt a := by
  rw [State.readByte_fst, if_neg there]

/-- In a segment the byte after one at an even address is at the next address. -/
theorem State.addr_succ_of_even (s : State) (g : SegReg) {off : Word} (even : (s.addr g off).getLsbD 0 = false) :
    s.addr g off + 1 = s.addr g (off + 1) := by
  rw [BitVec.getLsbD, Nat.testBit_zero, decide_eq_false_iff_not] at even
  unfold State.addr phys at *
  generalize s.segReg g = w at *
  bv_omega

/-- A fetch cycle brings the byte at an offset, and the next one with it where the address is even. -/
theorem fetchMove_reads (s : State) (off : Word) : ∃ l n,
    State.fetchMove (s.addr .cs off) s = (l, { s with floats := n }) ∧ l.bytes ≠ [] ∧ s.Holds off l.bytes := by
  obtain ⟨n, first⟩ := s.readByte_eq (s.addr .cs off)
  cases parity : (s.addr .cs off).getLsbD 0 with
  | true =>
    refine ⟨Lanes.byte (s.addr .cs off) (s.readByte (s.addr .cs off)).1, n, ?_, ?_, ?_⟩
    · unfold State.fetchMove
      rw [if_pos parity]
      dsimp only
      rw [first]
    · simp [Lanes.bytes_byte]
    · rw [Lanes.bytes_byte]
      exact State.holds_one State.readByte_there
  | false =>
    have next := s.addr_succ_of_even .cs parity
    obtain ⟨n', second⟩ := State.readByte_eq { s with floats := n } (s.addr .cs off + 1)
    refine ⟨Lanes.word (wordOf (s.readByte (s.addr .cs off)).1
      (State.readByte { s with floats := n } (s.addr .cs off + 1)).1), n', ?_, ?_, ?_⟩
    · unfold State.fetchMove State.inputWord State.input
      rw [if_neg (by rw [parity]; decide)]
      dsimp only
      rw [first, second]
    · simp [Lanes.bytes, Lanes.word]
    · have bytes : ∀ v, (Lanes.word v).bytes = [lowByte v, highByte v] := fun v => rfl
      rw [bytes, lowByte_wordOf, highByte_wordOf]
      refine State.holds_two State.readByte_there fun there => ?_
      rw [next]
      exact State.readByte_there (s := { s with floats := n }) there

/-- The queue filled by a fetch. -/
theorem State.demand_of_quiet {s : State} (h : s.Quiet) (running : s.halted = false) (empty : s.queue = []) :
    ∃ q n l, s.demand = { s with queue := q, floats := n, waits := 0, log := l } ∧ q ≠ [] ∧ s.Holds s.ip q := by
  obtain ⟨l, n, acts, some_byte, holds⟩ := fetchMove_reads s s.ip
  have fetches : s.biuFetch = { s with
      queue := l.bytes
      floats := n
      waits := 0
      log := s.logged [s.busCycle .fetch (some (s.addr .cs s.ip)) (some .cs) l] } := by
    unfold State.biuFetch State.runCycle
    rw [running, empty, s.barred_of_quiet h]
    simp only [List.length_nil, show s.ip + BitVec.ofNat 16 0 = s.ip by bv_omega]
    rw [acts]
    simp [State.record, State.logged, empty, running]
  refine ⟨l.bytes, n, s.logged [s.busCycle .fetch (some (s.addr .cs s.ip)) (some .cs) l], ?_, some_byte, holds⟩
  unfold State.demand
  rw [s.pass_of_quiet h]
  dsimp only
  rw [show s.flight.cut = none by rw [h.1]; rfl]
  dsimp only
  rw [show s.queue.isEmpty = true by rw [empty]; rfl, if_pos rfl, fetches]
  exact if_neg (by simpa using some_byte)

/-! ### Bytes taken one after another -/

/-- `k` bytes of the instruction stream of `s` have been taken; the queue holds the next ones. -/
structure Taken (s : State) (k : Nat) (t : State) : Prop where
  frame : t = { s with ip := s.ip + BitVec.ofNat 16 k, queue := t.queue, floats := t.floats, waits := t.waits,
                       log := t.log }
  covers : s.queue.length ≤ k + t.queue.length
  stream : ∀ j, (inside : j < t.queue.length) →
    (s.queue.length ≤ k + j → s.kindAt (s.addr .cs (s.ip + BitVec.ofNat 16 (k + j))) ≠ .absent) →
      t.queue[j] = Claims.streamByte s (k + j)

theorem Taken.zero (s : State) : Taken s 0 s where
  frame := by rw [show s.ip + BitVec.ofNat 16 0 = s.ip by bv_omega]
  covers := by omega
  stream := fun j inside _ => by
    simp [Claims.streamByte, inside]

theorem Taken.quiet {s t : State} {k : Nat} (a : Taken s k t) (h : s.Quiet) : t.Quiet := by
  rw [a.frame]
  exact h

/-- The queue is filled before a byte is taken. -/
theorem Taken.filled {s t : State} {k : Nat} (a : Taken s k t) (h : s.Quiet) (running : s.halted = false) :
    ∃ u, (if t.queue.isEmpty then t.demand else t) = u ∧ Taken s k u ∧ u.queue ≠ [] := by
  by_cases empty : t.queue = []
  · have covers := a.covers
    rw [empty] at covers
    obtain ⟨q, n, l, demanded, some_byte, holds⟩ := State.demand_of_quiet (a.quiet h)
      ((congrArg (·.halted) a.frame).trans running) empty
    refine ⟨_, if_pos (by rw [empty]; rfl), ?_, by rw [demanded]; exact some_byte⟩
    have ip : t.ip = s.ip + BitVec.ofNat 16 k := congrArg (·.ip) a.frame
    rw [demanded]
    refine ⟨?_, ?_, fun j inside there => ?_⟩
    · rw [a.frame]
    · exact covers.trans (by simp)
    · have beyond : s.queue.length ≤ k + j := covers.trans (by simp)
      have at_ : t.ip + BitVec.ofNat 16 j = s.ip + BitVec.ofNat 16 (k + j) := by
        rw [ip, BitVec.ofNat_add, BitVec.add_assoc]
      have held := holds j inside
      rw [at_] at held
      rw [Claims.streamByte, dif_neg (by omega)]
      rw [a.frame] at held
      exact held (there beyond)
  · exact ⟨t, if_neg (by simpa using empty), a, empty⟩

theorem Taken.takeByte {s t : State} {k : Nat} (a : Taken s k t) (h : s.Quiet) (running : s.halted = false)
    (there : s.queue.length ≤ k → s.kindAt (s.addr .cs (s.ip + BitVec.ofNat 16 k)) ≠ .absent) (first : Bool) :
    ∃ u, t.takeByte first = (some (Claims.streamByte s k), u) ∧ Taken s (k + 1) u := by
  obtain ⟨u, fills, b, some_byte⟩ := a.filled h running
  obtain ⟨c, rest, queue⟩ := List.exists_cons_of_ne_nil some_byte
  have calm : u.flight.stalled.isSome = false := by
    rw [(b.quiet h).1]
    rfl
  have byte : c = Claims.streamByte s k := by
    have head := b.stream 0 (by rw [queue]; exact Nat.succ_pos _) there
    simp only [queue, List.getElem_cons_zero, Nat.add_zero] at head
    exact head
  refine ⟨{ u with
    queue := rest
    ip := u.ip + 1
    log := { u.log with queue := u.log.queue ++ [if first then .first else .subsequent] } }, ?_, ?_, ?_, ?_⟩
  · unfold State.takeByte
    dsimp only
    rw [fills, calm, queue, byte]
    rfl
  · have ip : u.ip + 1 = s.ip + BitVec.ofNat 16 (k + 1) := by
      rw [show u.ip = s.ip + BitVec.ofNat 16 k from congrArg (·.ip) b.frame, BitVec.ofNat_add, BitVec.add_assoc]
      rfl
    rw [ip, b.frame]
  · have covers := b.covers
    rw [queue, List.length_cons] at covers
    show s.queue.length ≤ k + 1 + rest.length
    omega
  · intro j inside installed
    have next := b.stream (j + 1) (by rw [queue]; exact Nat.succ_lt_succ inside) (by
      rw [show k + (j + 1) = k + 1 + j by omega]
      exact installed)
    simp only [queue, List.getElem_cons_succ] at next
    rw [next, show k + (j + 1) = k + 1 + j by omega]

/-- The bytes of an instruction taken, and no other. -/
theorem Taken.takeInstr {s : State} (h : s.Quiet) (running : s.halted = false) {i : Instr} (wf : i.wf = true)
    (stands : Claims.StandsAt s i) (ip : Word) (left k fuel : Nat) {t : State} (a : Taken s k t)
    (length : k + (left + 1) = (encode i).length) (enough : left < fuel) :
    ∃ u, t.takeInstr .layerG ip fuel ((encode i).take k) = .instr i u ∧ Taken s (encode i).length u := by
  induction left generalizing k fuel t with
  | zero =>
    obtain ⟨fuel, rfl⟩ := Nat.exists_eq_succ_of_ne_zero (Nat.ne_of_gt enough)
    obtain ⟨byte, there⟩ := stands k (by omega)
    obtain ⟨u, took, b⟩ := a.takeByte h running there ((encode i).take k).isEmpty
    have whole : (encode i).take k ++ [Claims.streamByte s k] = encode i := by
      rw [byte, ← List.take_succ_eq_append_getElem, List.take_of_length_le (by omega)]
    have read := decodeOfEncode i [] wf
    rw [List.append_nil] at read
    refine ⟨u, ?_, by rw [← length]; exact b⟩
    unfold State.takeInstr
    rw [took]
    dsimp only
    rw [whole, show Isa.layerG.decode (encode i) = _ from read]
  | succ left ih =>
    obtain ⟨fuel, rfl⟩ := Nat.exists_eq_succ_of_ne_zero (Nat.ne_of_gt (Nat.zero_lt_of_lt enough))
    obtain ⟨byte, there⟩ := stands k (by omega)
    obtain ⟨u, took, b⟩ := a.takeByte h running there ((encode i).take k).isEmpty
    have part : (encode i).take k ++ [Claims.streamByte s k] = (encode i).take (k + 1) := by
      rw [byte, ← List.take_succ_eq_append_getElem]
    obtain ⟨v, rest, c⟩ := ih (k + 1) fuel b (by omega) (by omega)
    refine ⟨v, ?_, c⟩
    unfold State.takeInstr
    rw [took]
    dsimp only
    rw [part, show Isa.layerG.decode ((encode i).take (k + 1)) = none from decode_part wf (by omega)]
    exact rest

/-! ### The turn -/

/-- What a turn runs in a state that is ready for an instruction: `exec` of it, from its start to its boundary. -/
theorem cpuTurn_of_ready {s t : State} {i : Instr} (midway : s.midway = none) (due : s.due = none)
    (running : s.halted = false) (idle : s.inProgress = none)
    (fetched : (s.beginTurn []).fetch .layerG = .instr i t) :
    s.cpuTurn .layerG [] = t.carry .layerG (.instr i) [] := by
  unfold State.cpuTurn State.turn
  rw [show (s.beginTurn []).midway = none from midway, show (s.beginTurn []).due = none from due]
  dsimp only
  rw [if_neg (by rw [show (s.beginTurn []).halted = false from running]; decide),
    show (s.beginTurn []).inProgress = none from idle]
  dsimp only
  rw [fetched]

/-- A task that begins with nothing in flight. -/
theorem carry_fresh {t : State} (midway : t.midway = none) (flight : t.flight = .idle) :
    ({ t with midway := none, flight := { t.flight with again := [] } } : State) = t := by
  cases t
  dsimp only at midway flight
  rw [midway, flight]
  rfl

/-- An instruction run: its meaning between its start and its boundary, or a refusal. -/
theorem perform_instr {t : State} {i : Instr} (admits : t.admits i = true) : t.perform .layerG (.instr i) =
    match exec i t.start with
    | .next v => .next (t.finish v)
    | .fault f => .fault f
    | .refused q => .refused q := if_pos admits

theorem perform_undocumented {t : State} {i : Instr} (admits : t.admits i = false) :
    t.perform .layerG (.instr i) = .refused .undocumentedPrefix :=
  if_neg fun does => Bool.false_ne_true (admits.symm.trans does)

theorem finish_quiet (s : State) {v : State} (h : v.Quiet) : (s.finish v).Quiet := by
  unfold State.finish
  split
  · exact h
  · split
    · exact h
    · exact h
    · exact h

/-- The boundary after an instruction that leaves `p` in progress and nothing in flight. -/
theorem finish_boundary_idle {s t : State} (shadow : t.shadow = s.shadow) (trap : t.trap = s.trap) (v : State)
    (p : Option Instr) : t.finish { v with inProgress := p, flight := .idle } =
      Claims.boundary s { v with inProgress := p, flight := .idle } := by
  unfold State.finish Claims.boundary
  rw [shadow, trap]
  by_cases pending : v.armed.pending = true
  · exact (if_pos pending).trans (if_pos pending).symm
  · refine (if_neg pending).trans (Eq.trans ?_ (if_neg pending).symm)
    cases p with
    | none => rfl
    | some i => cases i <;> rfl

/-- The boundary after an instruction, in the words of the statement. -/
theorem finish_boundary {s t v : State} (shadow : t.shadow = s.shadow) (trap : t.trap = s.trap) (h : v.Quiet) :
    t.finish v = Claims.boundary s v := by
  have idle : { v with inProgress := v.inProgress, flight := .idle } = v := by rw [← h.1]
  rw [← idle]
  exact finish_boundary_idle shadow trap v v.inProgress

end Sys2Proof.Machine

namespace Sys2Proof

open Machine Claims

/-- Settles O5. -/
theorem stepRunsDecoded : Obligations.StepRunsDecoded := by
  intro i s wf ready stands
  obtain ⟨script, midway, due, running, idle, hung, owner⟩ := ready
  have positive := encode_length_pos wf
  have short := encode_length_le wf
  obtain ⟨t, fetched, taken⟩ := Taken.takeInstr (s := (s.beginTurn []).markStart) ⟨rfl, hung, owner⟩ running wf stands
    s.ip ((encode i).length - 1) 0 6 (Taken.zero _) (by omega) (by omega)
  have turn : s.cpuTurn .layerG [] = t.carry .layerG (.instr i) [] := cpuTurn_of_ready midway due running idle fetched
  have quiet : t.Quiet := taken.quiet ⟨rfl, hung, owner⟩
  have fresh := carry_fresh ((congrArg (·.midway) taken.frame).trans midway) quiet.1
  have shadow : t.shadow = s.shadow := congrArg (·.shadow) taken.frame
  have trap : t.trap = s.trap := congrArg (·.trap) taken.frame
  have admits : t.admits i = s.admits i := congrArg (·.admits i) taken.frame
  refine ⟨t.start, ⟨?_, fun k inside there => ?_⟩, fun documented v ends => ?_, fun documented f ends => ?_,
    fun documented q ends => ?_, fun undocumented => ?_⟩
  · rw [taken.frame]
    unfold State.start
    rw [← idle]
    rfl
  · refine taken.stream k inside fun _ => ?_
    rw [BitVec.ofNat_add, ← BitVec.add_assoc]
    have ip : t.ip = s.ip + BitVec.ofNat 16 (encode i).length := congrArg (·.ip) taken.frame
    exact ip ▸ there
  · have after : v.Quiet := exec_quiet (s := t.start) quiet ends
    have run : t.perform .layerG (.instr i) = .next (t.finish v) := by
      rw [perform_instr (admits.trans documented), ends]
    rw [finish_boundary shadow trap after] at run
    have calm : (boundary s v).Quiet := by
      rw [← finish_boundary shadow trap after]
      exact finish_quiet t after
    refine step_of_cpuTurn script (turn.trans (carry_of_perform ?_ ?_)) calm
    · rw [fresh]
      exact run
    · rw [calm.1]
      rfl
  · have run : t.perform .layerG (.instr i) = .fault f := by
      rw [perform_instr (admits.trans documented), ends]
    rw [step_of_script_nil script, State.alone, turn, State.carry, fresh, run]
  · have run : t.perform .layerG (.instr i) = .refused q := by
      rw [perform_instr (admits.trans documented), ends]
    rw [step_of_script_nil script, State.alone, turn, State.carry, fresh, run]
  · rw [step_of_script_nil script, State.alone, turn, State.carry, fresh,
      perform_undocumented (admits.trans undocumented)]

end Sys2Proof

/-! ## RESET

Between two turns, in a cycle that hangs and inside an instruction (R51, R620, R650). -/

namespace Sys2Proof.Machine

open Claims

/-! ### The halves of a write cycle -/

/-- One half of a write cycle lands, or does not. -/
def State.landHalf (s : State) (sp : Space) (a : Addr) (v : Option Byte) (lands : Bool) : State :=
  match v with
  | some b => if lands then s.output sp a b else s
  | none => s

theorem landHalves_of_write (s : State) {c : BusCycle} {a : Addr} (addr : c.addr = some a)
    (write : c.kind.isWrite = true) (low high : Bool) : s.landHalves c low high =
      (s.landHalf (if c.kind = .memw then .memory else .io) a c.data.low low).landHalf
        (if c.kind = .memw then .memory else .io) (if c.data.low.isSome then a + 1 else a) c.data.high high := by
  unfold State.landHalves
  rw [addr, write]
  rfl

theorem landHalf_memory (s : State) (a : Addr) (v : Option Byte) (lands : Bool) :
    ∃ m, s.landHalf .memory a v lands = { s with mem := m } ∧ State.byteAt { s with mem := m } =
      match v with
      | some b => if lands = true then poke s s.byteAt a b else s.byteAt
      | none => s.byteAt := by
  cases v with
  | none => exact ⟨s.mem, rfl, rfl⟩
  | some b =>
    cases lands with
    | false => exact ⟨s.mem, rfl, rfl⟩
    | true =>
      obtain ⟨m, same⟩ := s.writeByte_eq a b
      refine ⟨m, same, ?_⟩
      funext x
      rw [← same]
      exact s.byteAt_writeByte a x b

theorem landHalf_io (s : State) (a : Addr) (v : Option Byte) (lands : Bool) :
    ∃ d, s.landHalf .io a v lands = { s with devices := d } := by
  cases v with
  | none => exact ⟨s.devices, rfl⟩
  | some b =>
    cases lands with
    | false => exact ⟨s.devices, rfl⟩
    | true => exact ⟨_, rfl⟩

/-- A memory write cycle cut short. -/
theorem landHalves_memw (s : State) {c : BusCycle} {a : Addr} (kind : c.kind = .memw) (addr : c.addr = some a)
    (low high : Bool) : ∃ m, s.landHalves c low high = { s with mem := m } ∧
      State.byteAt { s with mem := m } = landed s a c.data low high := by
  rw [landHalves_of_write s addr (by rw [kind]; rfl), if_pos kind]
  obtain ⟨m, first, bytes⟩ := landHalf_memory s a c.data.low low
  obtain ⟨m', second, bytes'⟩ := landHalf_memory { s with mem := m } (if c.data.low.isSome then a + 1 else a)
    c.data.high high
  rw [first, second]
  refine ⟨m', rfl, ?_⟩
  rw [bytes', bytes]
  unfold landed
  cases c.data.low with
  | none => rfl
  | some v => rfl

/-- Another cycle that is cut short leaves memory, and the devices unless it writes to a port. -/
theorem landHalves_other (s : State) {c : BusCycle} (kind : c.kind ≠ .memw) (low high : Bool) :
    ∃ d, s.landHalves c low high = { s with devices := d } ∧ (c.kind ≠ .iow → d = s.devices) := by
  cases addr : c.addr with
  | none =>
    refine ⟨s.devices, ?_, fun _ => rfl⟩
    unfold State.landHalves
    rw [addr]
  | some a =>
    cases write : c.kind.isWrite with
    | false =>
      refine ⟨s.devices, ?_, fun _ => rfl⟩
      unfold State.landHalves
      rw [addr, write]
    | true =>
      have port : c.kind = .iow := by
        cases k : c.kind with
        | iow => rfl
        | memw => exact absurd k kind
        | _ => rw [k] at write; exact absurd write (by decide)
      rw [landHalves_of_write s addr write, if_neg kind]
      obtain ⟨d, first⟩ := landHalf_io s a c.data.low low
      obtain ⟨d', second⟩ := landHalf_io { s with devices := d } (if c.data.low.isSome then a + 1 else a)
        c.data.high high
      rw [first, second]
      exact ⟨d', rfl, fun other => absurd port other⟩

/-! ### RESET comes -/

theorem doReset_fresh (s : State) : Fresh s.doReset :=
  ⟨rfl, rfl, rfl, rfl, rfl, rfl, rfl, rfl, rfl, rfl, rfl, rfl, rfl, rfl, rfl, rfl, rfl, rfl, rfl⟩

theorem cutCycle_of_none {s : State} (stuck : s.stuck = none) (low high : Bool) : s.cutCycle low high none = s := by
  unfold State.cutCycle
  rw [stuck]

theorem cutCycle_of_stuck {s : State} {c : BusCycle} (stuck : s.stuck = some c) (low high : Bool)
    (next : Option BusCycle) : s.cutCycle low high next = s.landHalves c low high := by
  unfold State.cutCycle
  rw [stuck]

/-- A cycle that is over without an address lands nothing. -/
theorem landHalves_of_no_addr (s : State) {c : BusCycle} (addr : c.addr = none) (low high : Bool) :
    s.landHalves c low high = s := by
  unfold State.landHalves
  rw [addr]

/-- What RESET leaves of a cycle that hangs, or of none. -/
theorem cutCycle_hung (s : State) (low high : Bool) : ∃ m d,
    s.cutCycle low high none = { s with mem := m, devices := d } ∧
    (s.stuck = none → m = s.mem ∧ d = s.devices) ∧
    (∀ c, s.stuck = some c →
      (∀ a, c.kind = .memw → c.addr = some a → State.byteAt { s with mem := m } = landed s a c.data low high) ∧
      (c.kind ≠ .memw → m = s.mem) ∧ (c.kind ≠ .iow → d = s.devices)) := by
  rcases Option.eq_none_or_eq_some s.stuck with stuck | ⟨c, stuck⟩
  · exact ⟨s.mem, s.devices, cutCycle_of_none stuck low high, fun _ => ⟨rfl, rfl⟩,
      fun c some => by rw [stuck] at some; simp at some⟩
  · have hangs : s.stuck ≠ none := by rw [stuck]; simp
    have only : ∀ {c'}, s.stuck = some c' → c' = c := fun some => (Option.some.inj (stuck.symm.trans some)).symm
    rw [cutCycle_of_stuck stuck]
    by_cases kind : c.kind = .memw
    · rcases Option.eq_none_or_eq_some c.addr with addr | ⟨a, addr⟩
      · refine ⟨s.mem, s.devices, landHalves_of_no_addr s addr low high, fun none => absurd none hangs,
          fun c' cycle => ?_⟩
        obtain rfl := only cycle
        exact ⟨fun a _ at_ => by rw [addr] at at_; simp at at_, fun _ => rfl, fun _ => rfl⟩
      · obtain ⟨m, same, bytes⟩ := landHalves_memw s kind addr low high
        refine ⟨m, s.devices, same, fun none => absurd none hangs, fun c' cycle => ?_⟩
        obtain rfl := only cycle
        exact ⟨fun a' _ at_ => by rw [← Option.some.inj (addr.symm.trans at_)]; exact bytes,
          fun other => absurd kind other, fun _ => rfl⟩
    · obtain ⟨d, same, devices⟩ := landHalves_other s kind low high
      refine ⟨s.mem, d, same, fun none => absurd none hangs, fun c' cycle => ?_⟩
      obtain rfl := only cycle
      exact ⟨fun _ memw => absurd memw kind, fun _ => rfl, devices⟩

/-- RESET finds the cycle that was about to run. -/
theorem cutCycle_of_next {s : State} (stuck : s.stuck = none) (owner : s.owner = .cpu) (c : BusCycle)
    (low high : Bool) :
    s.cutCycle low high (some c) = s.landHalves c low high := by
  unfold State.cutCycle
  rw [stuck]
  exact if_pos owner

/-- A cycle that RESET comes before does not run. -/
theorem cycle_of_cut {s t : State} {pt : Point} (again : s.flight.again = []) (passed : s.pass pt = t)
    (calm : t.flight.stalled = none) {low high : Bool} (cut : t.flight.cut = some (low, high)) (k : BusKind)
    (a : Option Addr) (g : Option SegReg) (f : State → Lanes × State) : s.cycle pt k a g f =
      (.none, (t.cutCycle low high (some (t.busCycle k a g (f t).1))).stall pt) := by
  unfold State.cycle
  rw [again]
  dsimp only
  rw [passed, calm, cut]
  rfl

/-- The state RESET leaves at the point where it comes. -/
def State.resetting (s : State) (low high : Bool) : State :=
  { s with flight := { Flight.idle with cut := some (low, high) } }

/-- RESET at the point before the one cycle of a word written at an even address. -/
theorem writeMem16_reset {s : State} {low high : Bool}
    (flight : s.flight = { Flight.idle with gaps := [[.reset low high]] }) (owner : s.owner = .cpu)
    (stuck : s.stuck = none) (g : SegReg) (off v : Word) (even : (s.addr g off).getLsbD 0 = false) :
    ∃ m, s.writeMem16 g off v = State.stall { s.resetting low high with mem := m } .between ∧
      State.byteAt { s with mem := m } = landed s (s.addr g off) (Lanes.word v) low high := by
  have passed : s.pass .between = s.resetting low high := by
    unfold State.pass
    rw [flight]
    rfl
  obtain ⟨m, lands, bytes⟩ := landHalves_memw (s.resetting low high) (c := (s.resetting low high).busCycle .memw
    (some (s.addr g off)) (some g) (Lanes.word v)) rfl rfl low high
  refine ⟨m, ?_, bytes⟩
  unfold State.writeMem16 State.writePair
  rw [if_neg (by rw [even]; decide), cycle_of_cut (by rw [flight]; rfl) passed rfl rfl,
    cutCycle_of_next (s := s.resetting low high) stuck owner]
  dsimp only [Space.writeKind]
  rw [lands]

/-- Each byte of a word whose cycle is cut is old or new. -/
theorem landed_word (s : State) (a : Addr) (v : Word) (low high : Bool) (x : Addr) :
    landed s a (Lanes.word v) low high x =
      if x = a ∧ low = true ∧ s.kindAt x = .ram then lowByte v
      else if x = a + 1 ∧ high = true ∧ s.kindAt x = .ram then highByte v else s.byteAt x := by
  unfold landed poke
  by_cases first : x = a
  · subst first
    cases low <;> cases high <;> simp [Lanes.word]
  · by_cases second : x = a + 1
    · subst second
      cases low <;> cases high <;> simp [Lanes.word]
    · have second' : ¬ x = a + 1#20 := second
      cases low <;> cases high <;> simp [Lanes.word, first, second']

end Sys2Proof.Machine

namespace Sys2Proof

open Machine Claims

/-- Settles O7. -/
theorem resetLeaves : Obligations.ResetLeaves := by
  refine ⟨fun s low high rest script => ?_, fun s u gaps rest script turn cut => ?_,
    fun s g off v low high hung owner stuck flight even => ?_⟩
  · obtain ⟨m, d, same, calm, cycle⟩ := cutCycle_hung { s with script := rest, log := .empty } low high
    refine ⟨_, step_of_event script, doReset_fresh _, ?_⟩
    show (State.doReset (State.cutCycle { s with script := rest, log := .empty } low high none)).pins = _ ∧ _
    rw [show State.happen { s with script := rest, log := .empty } (.reset low high) =
      State.doReset (State.cutCycle { s with script := rest, log := .empty } low high none) from rfl, same]
    exact ⟨rfl, rfl, rfl, calm, cycle⟩
  · refine ⟨u.doReset, ?_, doReset_fresh u, rfl, rfl, rfl, rfl, rfl, rfl⟩
    rw [step_of_turn script, State.play, turn]
    exact congrArg _ (if_pos (Option.isSome_iff_ne_none.mpr cut))
  · have parity := bit0_of_even even
    obtain ⟨m, wrote, bytes⟩ := writeMem16_reset flight owner stuck g off v parity
    dsimp only
    rw [wrote]
    refine ⟨rfl, rfl, fun a => ?_⟩
    rw [← s.addr_succ_of_even g parity]
    exact (congrFun bytes a).trans (landed_word s (s.addr g off) v low high a)

end Sys2Proof
